-- ==== Sys2Proof/Word.lean ====
section
/-! DEFINITION. The word types of the block: 8, 32 and 64 bits (00_scope R8). All values are unsigned
bit vectors, bit 0 the least significant (00_scope R10). -/

namespace Sys2Proof

/-- Eight bits: an opcode, an immediate, a vector, a fatal cause code. -/
abbrev Byte := BitVec 8

/-- A raw register word, a command word, an operand or result port (00_scope R8). -/
abbrev Word := BitVec 32

/-- An MSR value, a base pointer, a copy of IA32_APIC_BASE (00_scope R8, 10_state R21). -/
abbrev DWord := BitVec 64

end Sys2Proof
end

