-- ==== Sys2Proof/Syntax.lean ====
section
/-! DEFINITION. The 35 commands of 30_encoding R87 and the value sets their operands range over. A field
whose legal values are a fixed set of names is a type with those names; the numbers behind the names
are in Decode.lean. -/

namespace Sys2Proof

/-- The mode code of `MODE.SELECT` (30_encoding R83): 0 = xAPIC, 1 = x2APIC. -/
inductive Backend where
  | xapic
  | x2apic
  deriving DecidableEq, Repr

/-- The kinds of Local Vector Table entry (10_state R35). -/
inductive LvtKind where
  | timer
  | cmci
  | lint0
  | lint1
  | error
  | performanceMonitors
  | thermalSensor
  deriving DecidableEq, Repr

/-- The 20 logical registers of the downstream APIC (10_state R29), in the order of their select codes. -/
inductive LogicalReg where
  | id
  | version
  | tpr
  | apr
  | ppr
  | eoi
  | rrd
  | ldr
  | esr
  | lvtCmci
  | icr
  | lvtTimer
  | lvtThermal
  | lvtPerf
  | lvtLint0
  | lvtLint1
  | lvtError
  | tic
  | tcc
  | tdc
  deriving DecidableEq, Repr

/-- The seven delivery modes (10_state R37); code 3 names none. -/
inductive DeliveryMode where
  | fixed
  | lowPriority
  | systemManagement
  | nonMaskable
  | init
  | startUp
  | external
  deriving DecidableEq, Repr

/-- The three timer modes (10_state R36); code 3 names none. -/
inductive TimerMode where
  | oneShot
  | periodic
  | tscDeadline
  deriving DecidableEq, Repr

/-- Destination mode of an interrupt command (10_state R38). -/
inductive DestinationMode where
  | physical
  | logical
  deriving DecidableEq, Repr

/-- Trigger mode of an interrupt command (10_state R38). -/
inductive TriggerMode where
  | edge
  | level
  deriving DecidableEq, Repr

/-- Assert mode of an interrupt command (10_state R38). -/
inductive AssertMode where
  | deassert
  | assert
  deriving DecidableEq, Repr

/-- Destination description of an interrupt command (30_encoding R84). -/
inductive DestinationKind where
  | explicitId
  | selfOnly
  | allIncludingSelf
  | allExcludingSelf
  deriving DecidableEq, Repr

/-- The structured description of an interrupt command, the fields of format `C` (30_encoding R84).
`vp` says whether a vector is given; `vec` must be zero when none is. -/
structure IcrDescription where
  vp    : Bool
  dm    : DeliveryMode
  dstm  : DestinationMode
  trig  : TriggerMode
  asrt  : AssertMode
  vec   : Byte
  dkind : DestinationKind
  deriving DecidableEq, Repr

/-- The commands of 30_encoding R87, one constructor per row of the opcode map, in its order. -/
inductive Instr where
  | modeSelect (m : Backend)
  | verVersion
  | verMaxlvt
  | verEoisup
  | esrDec
  | esrTest (i : Fin 8)
  | esrUnion
  | tdcEnc (e : Fin 8)
  | tdcDec
  | abaseEn
  | abaseX2
  | abaseAddr
  | lvtGetvec (k : LvtKind)
  | lvtSetvec (k : LvtKind) (v : Byte)
  | lvtGetds (k : LvtKind)
  | lvtGetmask (k : LvtKind)
  | lvtSetmask (k : LvtKind) (m : Bool)
  | lvtGetdm (k : LvtKind)
  | lvtSetdm (k : LvtKind) (d : DeliveryMode)
  | lvtGettm (k : LvtKind)
  | lvtSettm (k : LvtKind) (t : TimerMode)
  | icrBuild (d : IcrDescription)
  | icrInit
  | icrSipi (v : Byte)
  | icrGetvec
  | icrGetdm
  | icrGetdstm
  | icrGettrig
  | icrGetasrt
  | icrGetdest
  | regRd (r : LogicalReg)
  | regWr (r : LogicalReg)
  | esrClr
  | icrSend
  | eoi
  deriving DecidableEq, Repr

end Sys2Proof
end

