-- ==== Sys2Proof/WellFormed.lean ====
section
/-! DEFINITION. The one constraint on operands that the types of Syntax.lean do not already carry
(30_encoding R84): a description without a vector has a zero vector field. Every other legal range of
30_encoding R82 to R84 is the type of the operand. -/

namespace Sys2Proof

/-- 30_encoding R84: `vec` must be 0 when `vp = 0`. -/
def IcrDescription.wellFormed (d : IcrDescription) : Bool :=
  d.vp || d.vec == 0

/-- The commands a legal word can spell (30_encoding R96). -/
def Instr.wellFormed : Instr → Bool
  | .icrBuild d => d.wellFormed
  | .modeSelect _ => true
  | .verVersion => true
  | .verMaxlvt => true
  | .verEoisup => true
  | .esrDec => true
  | .esrTest _ => true
  | .esrUnion => true
  | .tdcEnc _ => true
  | .tdcDec => true
  | .abaseEn => true
  | .abaseX2 => true
  | .abaseAddr => true
  | .lvtGetvec _ => true
  | .lvtSetvec _ _ => true
  | .lvtGetds _ => true
  | .lvtGetmask _ => true
  | .lvtSetmask _ _ => true
  | .lvtGetdm _ => true
  | .lvtSetdm _ _ => true
  | .lvtGettm _ => true
  | .lvtSettm _ _ => true
  | .icrInit => true
  | .icrSipi _ => true
  | .icrGetvec => true
  | .icrGetdm => true
  | .icrGetdstm => true
  | .icrGettrig => true
  | .icrGetasrt => true
  | .icrGetdest => true
  | .regRd _ => true
  | .regWr _ => true
  | .esrClr => true
  | .icrSend => true
  | .eoi => true

end Sys2Proof
end

