-- ==== Sys2Proof/Decode.lean ====
section
/-! DEFINITION. The command encoding (30_encoding R80 to R88, R96): the numbers behind the operand names,
the decoder, total on every 32-bit word and rejecting by name, and after it the encoder. -/

namespace Sys2Proof

/-! ### The numbers behind the names -/

/-- The mode codes of 30_encoding R83. -/
def Backend.code : Backend → Byte
  | .xapic => 0
  | .x2apic => 1

/-- The kind codes of 10_state R35, as a 5-bit `sel`. -/
def LvtKind.code : LvtKind → BitVec 5
  | .timer => 0
  | .cmci => 1
  | .lint0 => 2
  | .lint1 => 3
  | .error => 4
  | .performanceMonitors => 5
  | .thermalSensor => 6

/-- The register select codes of 10_state R29. -/
def LogicalReg.code : LogicalReg → BitVec 5
  | .id => 0
  | .version => 1
  | .tpr => 2
  | .apr => 3
  | .ppr => 4
  | .eoi => 5
  | .rrd => 6
  | .ldr => 7
  | .esr => 8
  | .lvtCmci => 9
  | .icr => 10
  | .lvtTimer => 11
  | .lvtThermal => 12
  | .lvtPerf => 13
  | .lvtLint0 => 14
  | .lvtLint1 => 15
  | .lvtError => 16
  | .tic => 17
  | .tcc => 18
  | .tdc => 19

/-- The delivery-mode codes of 10_state R37. Codes 1, 5 and 6 are the source's, the others the spec's
from general knowledge, PRESUMED (log 17). -/
def DeliveryMode.code : DeliveryMode → BitVec 3
  | .fixed => 0b000
  | .lowPriority => 0b001
  | .systemManagement => 0b010
  | .nonMaskable => 0b100
  | .init => 0b101
  | .startUp => 0b110
  | .external => 0b111

/-- The timer-mode codes of 10_state R36. -/
def TimerMode.code : TimerMode → BitVec 2
  | .oneShot => 0b00
  | .periodic => 0b01
  | .tscDeadline => 0b10

/-- 10_state R38: 0 = Physical, 1 = Logical. -/
def DestinationMode.bit : DestinationMode → Bool
  | .physical => false
  | .logical => true

/-- 10_state R38: 0 = Edge, 1 = Level. -/
def TriggerMode.bit : TriggerMode → Bool
  | .edge => false
  | .level => true

/-- 10_state R38: 0 = Deassert, 1 = Assert. -/
def AssertMode.bit : AssertMode → Bool
  | .deassert => false
  | .assert => true

/-- The destination codes of 30_encoding R84, which are the shorthand codes of 10_state R38. -/
def DestinationKind.code : DestinationKind → BitVec 2
  | .explicitId => 0
  | .selfOnly => 1
  | .allIncludingSelf => 2
  | .allExcludingSelf => 3

/-! ### The names behind the numbers -/

/-- 30_encoding R83, `MODE.SELECT`. -/
def Backend.ofCode (imm : Byte) : Option Backend :=
  match imm.toNat with
  | 0 => some .xapic
  | 1 => some .x2apic
  | _ => none

/-- 30_encoding R82, the `LVT.*` commands. -/
def LvtKind.ofCode (sel : BitVec 5) : Option LvtKind :=
  match sel.toNat with
  | 0 => some .timer
  | 1 => some .cmci
  | 2 => some .lint0
  | 3 => some .lint1
  | 4 => some .error
  | 5 => some .performanceMonitors
  | 6 => some .thermalSensor
  | _ => none

/-- 30_encoding R82, `REG.RD` and `REG.WR`. -/
def LogicalReg.ofCode (sel : BitVec 5) : Option LogicalReg :=
  match sel.toNat with
  | 0 => some .id
  | 1 => some .version
  | 2 => some .tpr
  | 3 => some .apr
  | 4 => some .ppr
  | 5 => some .eoi
  | 6 => some .rrd
  | 7 => some .ldr
  | 8 => some .esr
  | 9 => some .lvtCmci
  | 10 => some .icr
  | 11 => some .lvtTimer
  | 12 => some .lvtThermal
  | 13 => some .lvtPerf
  | 14 => some .lvtLint0
  | 15 => some .lvtLint1
  | 16 => some .lvtError
  | 17 => some .tic
  | 18 => some .tcc
  | 19 => some .tdc
  | _ => none

/-- 30_encoding R83 and R84: codes 0, 1, 2, 4, 5, 6, 7. -/
def DeliveryMode.ofCode (n : Nat) : Option DeliveryMode :=
  match n with
  | 0 => some .fixed
  | 1 => some .lowPriority
  | 2 => some .systemManagement
  | 4 => some .nonMaskable
  | 5 => some .init
  | 6 => some .startUp
  | 7 => some .external
  | _ => none

/-- 30_encoding R83, `LVT.SETTM`: codes 0, 1, 2. -/
def TimerMode.ofCode (imm : Byte) : Option TimerMode :=
  match imm.toNat with
  | 0 => some .oneShot
  | 1 => some .periodic
  | 2 => some .tscDeadline
  | _ => none

/-- 30_encoding R83, `LVT.SETMASK`: 0 or 1. -/
def maskBitOfCode (imm : Byte) : Option Bool :=
  match imm.toNat with
  | 0 => some false
  | 1 => some true
  | _ => none

/-- 30_encoding R83, `ESR.TEST` and `TDC.ENC`: 0 to 7. -/
def indexOfCode (imm : Byte) : Option (Fin 8) :=
  if h : imm.toNat < 8 then some ⟨imm.toNat, h⟩ else none

/-- 10_state R38. -/
def DestinationMode.ofBit : Bool → DestinationMode
  | false => .physical
  | true => .logical

/-- 10_state R38. -/
def TriggerMode.ofBit : Bool → TriggerMode
  | false => .edge
  | true => .level

/-- 10_state R38. -/
def AssertMode.ofBit : Bool → AssertMode
  | false => .deassert
  | true => .assert

/-- 30_encoding R84: every 2-bit code is legal. -/
def DestinationKind.ofCode (c : BitVec 2) : DestinationKind :=
  match c.toNat with
  | 0 => .explicitId
  | 1 => .selfOnly
  | 2 => .allIncludingSelf
  | _ => .allExcludingSelf

/-! ### The decoder -/

/-- Why a word is illegal (30_encoding R96). The block does not tell the reasons apart: each raises
`IllegalCommand` (log 16). -/
inductive Reject where
  /-- the opcode is none of the 35 -/
  | undefinedOpcode
  /-- a must-be-zero field of the format is not zero -/
  | reservedBits
  /-- `sel` is outside the range of the opcode -/
  | selectOutOfRange
  /-- `imm8` is outside the set of the opcode -/
  | immediateOutOfRange
  /-- format `C` with `dm = 3` -/
  | deliveryModeReserved
  /-- format `C` with `vp = 0` and a non-zero `vec` -/
  | vectorWithoutPresence
  deriving DecidableEq, Repr

/-- `CMD[7:0]`, the opcode of every format (30_encoding R81). -/
def opField (w : Word) : Byte := w.extractLsb' 0 8

/-- `CMD[12:8]`, formats `S` and `SI`. -/
def selField (w : Word) : BitVec 5 := w.extractLsb' 8 5

/-- `CMD[23:16]`, formats `I` and `SI`; also `vec` of format `C`. -/
def immField (w : Word) : Byte := w.extractLsb' 16 8

/-- `CMD[11:9]`, `dm` of format `C`. -/
def dmField (w : Word) : BitVec 3 := w.extractLsb' 9 3

/-- `CMD[25:24]`, `dkind` of format `C`. -/
def dkindField (w : Word) : BitVec 2 := w.extractLsb' 24 2

/-- One bit of a command word: `vp`, `dstm`, `trig` and `asrt` of format `C`. -/
def bitField (w : Word) (i : Nat) : Bool := w.getLsbD i

/-- The mask of format `Z`, opcode and must-be-zero bits (30_encoding R88). -/
def maskZ : Word := 0xFFFFFFFF

/-- The mask of format `S` (30_encoding R88). -/
def maskS : Word := 0xFFFFE0FF

/-- The mask of format `I` (30_encoding R88). -/
def maskI : Word := 0xFF00FFFF

/-- The mask of format `SI` (30_encoding R88). -/
def maskSI : Word := 0xFF00E0FF

/-- The mask of format `C` (30_encoding R88). -/
def maskC : Word := 0xFC0080FF

/-- The must-be-zero bits of a format are those of its mask above the opcode (30_encoding R88). -/
def reservedClear (mask w : Word) : Bool :=
  w &&& mask == (opField w).setWidth 32

/-- Format `Z`. -/
def decodeZ (w : Word) (i : Instr) : Except Reject Instr :=
  if reservedClear maskZ w then .ok i else .error .reservedBits

/-- Format `S` with a kind select. -/
def decodeKind (w : Word) (mk : LvtKind → Instr) : Except Reject Instr :=
  if reservedClear maskS w then
    match LvtKind.ofCode (selField w) with
    | some k => .ok (mk k)
    | none => .error .selectOutOfRange
  else .error .reservedBits

/-- Format `S` with a register select. -/
def decodeReg (w : Word) (mk : LogicalReg → Instr) : Except Reject Instr :=
  if reservedClear maskS w then
    match LogicalReg.ofCode (selField w) with
    | some r => .ok (mk r)
    | none => .error .selectOutOfRange
  else .error .reservedBits

/-- Format `I`, with the legal set of the immediate given by `read`. -/
def decodeI {α : Type} (w : Word) (read : Byte → Option α) (mk : α → Instr) : Except Reject Instr :=
  if reservedClear maskI w then
    match read (immField w) with
    | some a => .ok (mk a)
    | none => .error .immediateOutOfRange
  else .error .reservedBits

/-- Format `SI`, with the legal set of the immediate given by `read`. -/
def decodeSI {α : Type} (w : Word) (read : Byte → Option α) (mk : LvtKind → α → Instr) :
    Except Reject Instr :=
  if reservedClear maskSI w then
    match LvtKind.ofCode (selField w) with
    | none => .error .selectOutOfRange
    | some k =>
      match read (immField w) with
      | some a => .ok (mk k a)
      | none => .error .immediateOutOfRange
  else .error .reservedBits

/-- Format `C` (30_encoding R84). -/
def decodeC (w : Word) : Except Reject Instr :=
  if reservedClear maskC w then
    match DeliveryMode.ofCode (dmField w).toNat with
    | none => .error .deliveryModeReserved
    | some dm =>
      let d : IcrDescription :=
        { vp := bitField w 8
          dm := dm
          dstm := DestinationMode.ofBit (bitField w 12)
          trig := TriggerMode.ofBit (bitField w 13)
          asrt := AssertMode.ofBit (bitField w 14)
          vec := immField w
          dkind := DestinationKind.ofCode (dkindField w) }
      if d.wellFormed then .ok (.icrBuild d) else .error .vectorWithoutPresence
  else .error .reservedBits

/-- The opcode map (30_encoding R87): every word is one of the 35 commands or is rejected by name. -/
def decode (w : Word) : Except Reject Instr :=
  match (opField w).toNat with
  | 0x01 => decodeI w Backend.ofCode .modeSelect
  | 0x10 => decodeZ w .verVersion
  | 0x11 => decodeZ w .verMaxlvt
  | 0x12 => decodeZ w .verEoisup
  | 0x14 => decodeZ w .esrDec
  | 0x15 => decodeI w indexOfCode .esrTest
  | 0x16 => decodeZ w .esrUnion
  | 0x18 => decodeI w indexOfCode .tdcEnc
  | 0x19 => decodeZ w .tdcDec
  | 0x1C => decodeZ w .abaseEn
  | 0x1D => decodeZ w .abaseX2
  | 0x1E => decodeZ w .abaseAddr
  | 0x20 => decodeKind w .lvtGetvec
  | 0x21 => decodeSI w some .lvtSetvec
  | 0x22 => decodeKind w .lvtGetds
  | 0x23 => decodeKind w .lvtGetmask
  | 0x24 => decodeSI w maskBitOfCode .lvtSetmask
  | 0x25 => decodeKind w .lvtGetdm
  | 0x26 => decodeSI w (fun imm => DeliveryMode.ofCode imm.toNat) .lvtSetdm
  | 0x27 => decodeKind w .lvtGettm
  | 0x28 => decodeSI w TimerMode.ofCode .lvtSettm
  | 0x30 => decodeC w
  | 0x31 => decodeZ w .icrInit
  | 0x32 => decodeI w some .icrSipi
  | 0x34 => decodeZ w .icrGetvec
  | 0x35 => decodeZ w .icrGetdm
  | 0x36 => decodeZ w .icrGetdstm
  | 0x37 => decodeZ w .icrGettrig
  | 0x38 => decodeZ w .icrGetasrt
  | 0x39 => decodeZ w .icrGetdest
  | 0x40 => decodeReg w .regRd
  | 0x41 => decodeReg w .regWr
  | 0x42 => decodeZ w .esrClr
  | 0x43 => decodeZ w .icrSend
  | 0x44 => decodeZ w .eoi
  | _ => .error .undefinedOpcode

/-- The instruction the decoder reads from an opcode-table word: a command is one 32-bit word
(30_encoding R80), so anything above bit 31 is no command. -/
def decodeTableWord (nbits w : Nat) : Option Instr :=
  if w % 2 ^ nbits < 2 ^ 32 then
    match decode (BitVec.ofNat 32 (w % 2 ^ nbits)) with
    | .ok i => some i
    | .error _ => none
  else none

/-! ### The encoder -/

/-- A field at its place in the command word. -/
def field {n : Nat} (v : BitVec n) (lo : Nat) : Word :=
  v.setWidth 32 <<< lo

/-- Format `Z` (30_encoding R81). -/
def encodeZ (op : Byte) : Word := field op 0

/-- Format `S` (30_encoding R81). -/
def encodeS (op : Byte) (sel : BitVec 5) : Word := field op 0 ||| field sel 8

/-- Format `I` (30_encoding R81). -/
def encodeI (op imm : Byte) : Word := field op 0 ||| field imm 16

/-- Format `SI` (30_encoding R81). -/
def encodeSI (op : Byte) (sel : BitVec 5) (imm : Byte) : Word :=
  field op 0 ||| field sel 8 ||| field imm 16

/-- Format `C` (30_encoding R81, R84). -/
def encodeC (op : Byte) (d : IcrDescription) : Word :=
  field op 0 ||| field (BitVec.ofBool d.vp) 8 ||| field d.dm.code 9
    ||| field (BitVec.ofBool d.dstm.bit) 12 ||| field (BitVec.ofBool d.trig.bit) 13
    ||| field (BitVec.ofBool d.asrt.bit) 14 ||| field d.vec 16 ||| field d.dkind.code 24

/-- The word of a command (30_encoding R81, R87). -/
def encode : Instr → Word
  | .modeSelect m => encodeI 0x01 m.code
  | .verVersion => encodeZ 0x10
  | .verMaxlvt => encodeZ 0x11
  | .verEoisup => encodeZ 0x12
  | .esrDec => encodeZ 0x14
  | .esrTest i => encodeI 0x15 (BitVec.ofNat 8 i.val)
  | .esrUnion => encodeZ 0x16
  | .tdcEnc e => encodeI 0x18 (BitVec.ofNat 8 e.val)
  | .tdcDec => encodeZ 0x19
  | .abaseEn => encodeZ 0x1C
  | .abaseX2 => encodeZ 0x1D
  | .abaseAddr => encodeZ 0x1E
  | .lvtGetvec k => encodeS 0x20 k.code
  | .lvtSetvec k v => encodeSI 0x21 k.code v
  | .lvtGetds k => encodeS 0x22 k.code
  | .lvtGetmask k => encodeS 0x23 k.code
  | .lvtSetmask k m => encodeSI 0x24 k.code ((BitVec.ofBool m).setWidth 8)
  | .lvtGetdm k => encodeS 0x25 k.code
  | .lvtSetdm k d => encodeSI 0x26 k.code (d.code.setWidth 8)
  | .lvtGettm k => encodeS 0x27 k.code
  | .lvtSettm k t => encodeSI 0x28 k.code (t.code.setWidth 8)
  | .icrBuild d => encodeC 0x30 d
  | .icrInit => encodeZ 0x31
  | .icrSipi v => encodeI 0x32 v
  | .icrGetvec => encodeZ 0x34
  | .icrGetdm => encodeZ 0x35
  | .icrGetdstm => encodeZ 0x36
  | .icrGettrig => encodeZ 0x37
  | .icrGetasrt => encodeZ 0x38
  | .icrGetdest => encodeZ 0x39
  | .regRd r => encodeS 0x40 r.code
  | .regWr r => encodeS 0x41 r.code
  | .esrClr => encodeZ 0x42
  | .icrSend => encodeZ 0x43
  | .eoi => encodeZ 0x44

end Sys2Proof
end

