-- ==== Sys2Proof/Machine/Fatal.lean ====
section
/-! DEFINITION. The fatal cause codes of 60_exceptions R250. -/

namespace Sys2Proof.Machine

/-- The causes a fatal can have (60_exceptions R250), in the order of the table. -/
inductive FatalCode where
  | illegalCommand
  | kindCapabilityMismatch
  | reservedEncoding
  | bitfieldOverflow
  | lvtVectorReserved
  | lvtVectorReservedRead
  | tscDeadlineUnsupported
  | icrDeassertNotInit
  | icrDeassertNotLevel
  | icrVectorForbidden
  | icrVectorRequired
  | icrDeassertDestination
  | modeNotSelected
  | modeAlreadySelected
  | misalignedBase
  | unimplemented
  | illegalRegisterAccess
  | x2LowPriorityUnsupported
  | destinationOutOfRange
  deriving DecidableEq, Repr

/-- The 8-bit number of a cause (60_exceptions R250); 0 names no fatal. -/
def FatalCode.code : FatalCode → Byte
  | .illegalCommand => 0x01
  | .kindCapabilityMismatch => 0x02
  | .reservedEncoding => 0x03
  | .bitfieldOverflow => 0x04
  | .lvtVectorReserved => 0x10
  | .lvtVectorReservedRead => 0x11
  | .tscDeadlineUnsupported => 0x12
  | .icrDeassertNotInit => 0x20
  | .icrDeassertNotLevel => 0x21
  | .icrVectorForbidden => 0x22
  | .icrVectorRequired => 0x23
  | .icrDeassertDestination => 0x24
  | .modeNotSelected => 0x30
  | .modeAlreadySelected => 0x31
  | .misalignedBase => 0x32
  | .unimplemented => 0x33
  | .illegalRegisterAccess => 0x34
  | .x2LowPriorityUnsupported => 0x35
  | .destinationOutOfRange => 0x36

/-- Abandon the command with a fatal when a precondition fails (00_scope R11, `if p then raise Fatal(c)`). -/
def raiseIf (p : Prop) [Decidable p] (c : FatalCode) : Except FatalCode Unit :=
  if p then .error c else .ok ()

end Sys2Proof.Machine
end

