-- ==== Sys2Proof/Machine/BitField.lean ====
section
/-! DEFINITION. The bit-field primitives of 40_bitfield_primitives R110 to R113. They have no command of
their own; every command of the block is written with them. -/

namespace Sys2Proof.Machine

/-- The word with ones in its `hi - lo + 1` lowest bits, `m` of R111. -/
def fieldMask (W hi lo : Nat) : BitVec W :=
  BitVec.ofNat W (2 ^ (hi - lo + 1) - 1)

/-- R110: the bits `hi:lo` of a word, zero-extended to the word's width. -/
def getBits {W : Nat} (w : BitVec W) (hi lo : Nat) : BitVec W :=
  (w >>> lo) &&& fieldMask W hi lo

/-- R111: the word with its bits `hi:lo` replaced. A value wider than the field is the fatal
`BitfieldOverflow`, which R115 says no command reaches. -/
def setBits {W : Nat} (w : BitVec W) (hi lo : Nat) (v : BitVec W) : Except FatalCode (BitVec W) :=
  if v.toNat < 2 ^ (hi - lo + 1) then
    .ok ((w &&& ~~~(fieldMask W hi lo <<< lo)) ||| (v <<< lo))
  else
    .error .bitfieldOverflow

/-- R112: one bit, as 0 or 1. -/
def getBit {W : Nat} (w : BitVec W) (i : Nat) : BitVec W :=
  getBits w i i

/-- A flag as a word that is 0 or 1 (30_encoding R86). -/
def bitWord (W : Nat) (b : Bool) : BitVec W :=
  (BitVec.ofBool b).setWidth W

/-- R113: the word with one bit replaced; a bit always fits, so this cannot raise. -/
def setBit {W : Nat} (w : BitVec W) (i : Nat) (b : Bool) : BitVec W :=
  (w &&& ~~~(fieldMask W i i <<< i)) ||| (bitWord W b <<< i)

/-- `concat hi lo` of two words, the first in the more significant half (00_scope R10). -/
def concat (hi lo : Word) : DWord :=
  (hi.setWidth 64 <<< 32) ||| lo.setWidth 64

/-- Bits 31:0 of a 64-bit value. -/
def lowWord (v : DWord) : Word :=
  v.setWidth 32

/-- Bits 63:32 of a 64-bit value. -/
def highWord (v : DWord) : Word :=
  (v >>> 32).setWidth 32

end Sys2Proof.Machine
end

