-- ==== Sys2Proof/Config.lean ====
section
/-! DEFINITION. The parameters of 00_scope R7, which a model takes as arguments of its configuration and
which never change during a run (70_reset_and_hazards R296), and the free value of the model: what the
downstream APIC answers to a read (20_memory R63). The parameters' defaults are in
Machine/Registers.lean. -/

namespace Sys2Proof

/-- `P_X2_ICR_FORM` (00_scope R7): whether the x2APIC send is two MSR writes or one. -/
inductive IcrForm where
  | split
  | merged
  deriving DecidableEq, Repr

/-- The 15 logical registers that 20_memory R55 routes; the placeholders have no entry. -/
inductive RoutedReg where
  | id
  | version
  | eoi
  | esr
  | lvtCmci
  | icr
  | lvtTimer
  | lvtThermal
  | lvtPerf
  | lvtLint0
  | lvtLint1
  | lvtError
  | tic
  | tcc
  | tdc
  deriving DecidableEq, Repr

/-- One row of `REGMAP` (20_memory R55): the MSR index and the byte offset within the 4 KiB page. -/
structure RegEntry where
  msr : Word
  off : BitVec 12
  deriving DecidableEq, Repr

/-- `REGMAP` (20_memory R55). The MSR indices of `ID`, `ICR` and `LVT_TIMER` are fixed by the source
and are no parameter (90_conflicts C8), so those rows hold an offset only. -/
structure RegMap where
  idOff       : BitVec 12
  version     : RegEntry
  eoi         : RegEntry
  esr         : RegEntry
  lvtCmci     : RegEntry
  icrOff      : BitVec 12
  icrHighOff  : BitVec 12
  lvtTimerOff : BitVec 12
  lvtThermal  : RegEntry
  lvtPerf     : RegEntry
  lvtLint0    : RegEntry
  lvtLint1    : RegEntry
  lvtError    : RegEntry
  tic         : RegEntry
  tcc         : RegEntry
  tdc         : RegEntry
  deriving DecidableEq, Repr

/-- The parameters of 00_scope R7. -/
structure Config where
  /-- `P_DEBUG_CHECKS` -/
  debugChecks    : Bool
  /-- `CAP_TSC_DEADLINE`, an input pin that is constant over a run (00_scope R9) -/
  capTscDeadline : Bool
  /-- `P_XAPIC_ID_LSB`, 0 to 24 -/
  xapicIdLsb     : Fin 25
  /-- `P_X2_ICR_FORM` -/
  x2IcrForm      : IcrForm
  /-- `P_X2_ICR_HIGH_MSR` -/
  x2IcrHighMsr   : Word
  /-- `REGMAP` -/
  regMap         : RegMap
  /-- `BASE` width, the width of the base pointer handed to `MODE.SELECT`; 0 to 64, since the two operand
  words carry no more (log 23) -/
  baseWidth      : Fin 65
  deriving DecidableEq, Repr

/-- FREE VALUE (log 8). What the downstream APIC answers to the read with this number when the run
lists no answer for it: 20_memory R63 constrains no such value, so nothing in Lean can evaluate it. -/
opaque Config.freeAnswer : Nat → DWord

end Sys2Proof
end

