-- ==== Sys2Proof/Machine/Registers.lean ====
section
/-! DEFINITION. The register map (20_memory R55): which logical registers are routed, the MSR index and
the page offset of each, which accesses each has (44_mode_dispatch R216, R217), and the defaults of the
parameters (00_scope R7). -/

namespace Sys2Proof

/-- The defaults of `REGMAP` (20_memory R55). PRESUMED (log 12): the spec marks every entry of this
table as general knowledge of the x86 local APIC, not taken from its source. -/
def RegMap.default : RegMap where
  idOff       := 0x020
  version     := { msr := 0x803, off := 0x030 }
  eoi         := { msr := 0x80B, off := 0x0B0 }
  esr         := { msr := 0x828, off := 0x280 }
  lvtCmci     := { msr := 0x82F, off := 0x2F0 }
  icrOff      := 0x300
  icrHighOff  := 0x310
  lvtTimerOff := 0x320
  lvtThermal  := { msr := 0x833, off := 0x330 }
  lvtPerf     := { msr := 0x834, off := 0x340 }
  lvtLint0    := { msr := 0x835, off := 0x350 }
  lvtLint1    := { msr := 0x836, off := 0x360 }
  lvtError    := { msr := 0x837, off := 0x370 }
  tic         := { msr := 0x838, off := 0x380 }
  tcc         := { msr := 0x839, off := 0x390 }
  tdc         := { msr := 0x83E, off := 0x3E0 }

/-- The defaults of 00_scope R7. `CAP_TSC_DEADLINE` has none there: true is the value the spec's test
vectors use, DESIGN CHOICE (log 10). -/
def Config.default : Config where
  debugChecks    := true
  capTscDeadline := true
  xapicIdLsb     := 24
  x2IcrForm      := .split
  x2IcrHighMsr   := 0x831
  regMap         := RegMap.default
  baseWidth      := 64

/-- `msr(r)` (20_memory R55). 0x802, 0x830 and 0x832 are the three indices the source fixes; the one of
`ICR` is that of its low half. -/
def Config.msr (c : Config) : RoutedReg → Word
  | .id => 0x802
  | .version => c.regMap.version.msr
  | .eoi => c.regMap.eoi.msr
  | .esr => c.regMap.esr.msr
  | .lvtCmci => c.regMap.lvtCmci.msr
  | .icr => 0x830
  | .lvtTimer => 0x832
  | .lvtThermal => c.regMap.lvtThermal.msr
  | .lvtPerf => c.regMap.lvtPerf.msr
  | .lvtLint0 => c.regMap.lvtLint0.msr
  | .lvtLint1 => c.regMap.lvtLint1.msr
  | .lvtError => c.regMap.lvtError.msr
  | .tic => c.regMap.tic.msr
  | .tcc => c.regMap.tcc.msr
  | .tdc => c.regMap.tdc.msr

/-- `off(r)` (20_memory R55); the one of `ICR` is that of its low half. -/
def Config.off (c : Config) : RoutedReg → BitVec 12
  | .id => c.regMap.idOff
  | .version => c.regMap.version.off
  | .eoi => c.regMap.eoi.off
  | .esr => c.regMap.esr.off
  | .lvtCmci => c.regMap.lvtCmci.off
  | .icr => c.regMap.icrOff
  | .lvtTimer => c.regMap.lvtTimerOff
  | .lvtThermal => c.regMap.lvtThermal.off
  | .lvtPerf => c.regMap.lvtPerf.off
  | .lvtLint0 => c.regMap.lvtLint0.off
  | .lvtLint1 => c.regMap.lvtLint1.off
  | .lvtError => c.regMap.lvtError.off
  | .tic => c.regMap.tic.off
  | .tcc => c.regMap.tcc.off
  | .tdc => c.regMap.tdc.off

/-- The routed register behind a logical register; `none` for the placeholders `TPR`, `APR`, `PPR`,
`RRD` and `LDR` (10_state R42, 44_mode_dispatch R216). -/
def LogicalReg.routed : LogicalReg → Option RoutedReg
  | .id => some .id
  | .version => some .version
  | .tpr => none
  | .apr => none
  | .ppr => none
  | .eoi => some .eoi
  | .rrd => none
  | .ldr => none
  | .esr => some .esr
  | .lvtCmci => some .lvtCmci
  | .icr => some .icr
  | .lvtTimer => some .lvtTimer
  | .lvtThermal => some .lvtThermal
  | .lvtPerf => some .lvtPerf
  | .lvtLint0 => some .lvtLint0
  | .lvtLint1 => some .lvtLint1
  | .lvtError => some .lvtError
  | .tic => some .tic
  | .tcc => some .tcc
  | .tdc => some .tdc

/-- `REG.RD` reaches every routed register but `EOI` and `ICR` (44_mode_dispatch R217). -/
def RoutedReg.readable : RoutedReg → Bool
  | .eoi => false
  | .icr => false
  | .id => true
  | .version => true
  | .esr => true
  | .lvtCmci => true
  | .lvtTimer => true
  | .lvtThermal => true
  | .lvtPerf => true
  | .lvtLint0 => true
  | .lvtLint1 => true
  | .lvtError => true
  | .tic => true
  | .tcc => true
  | .tdc => true

/-- `REG.WR` reaches the seven LVT entries, `TIC` and `TDC` (44_mode_dispatch R217, R218). -/
def RoutedReg.writable : RoutedReg → Bool
  | .id => false
  | .version => false
  | .eoi => false
  | .esr => false
  | .icr => false
  | .tcc => false
  | .lvtCmci => true
  | .lvtTimer => true
  | .lvtThermal => true
  | .lvtPerf => true
  | .lvtLint0 => true
  | .lvtLint1 => true
  | .lvtError => true
  | .tic => true
  | .tdc => true

/-- The register that holds the entry of a kind (10_state R35). -/
def LvtKind.register : LvtKind → LogicalReg
  | .timer => .lvtTimer
  | .cmci => .lvtCmci
  | .lint0 => .lvtLint0
  | .lint1 => .lvtLint1
  | .error => .lvtError
  | .performanceMonitors => .lvtPerf
  | .thermalSensor => .lvtThermal

end Sys2Proof
end

