-- ==== Sys2Proof/Machine/State.lean ====
section
/-! DEFINITION. The state of the machine: the five registers of the block (10_state R20), its ports, the
host's side and the downstream side of a run, and the parameters of the run. Plain data. -/

namespace Sys2Proof.Machine

/-- `MODE` (10_state R21): a 2-bit register whose value 3 is never produced (log 13). -/
inductive Mode where
  | unsel
  | xapic
  | x2apic
  deriving DecidableEq, Repr

/-- `STAT` at the completion of a command (10_state R24). -/
inductive Stat where
  | ok
  | fatal (code : Byte)
  deriving DecidableEq, Repr

/-- One downstream transaction (20_memory R50 to R54). The memory accesses are 32 bits wide. -/
inductive Transaction where
  | msrRead (idx : Word)
  | msrWrite (idx : Word) (v : DWord)
  | memRead (addr : DWord)
  | memWrite (addr : DWord) (v : Word)
  | fence
  deriving DecidableEq, Repr

/-- What the host puts on the input ports for one command (10_state R23). -/
structure Command where
  cmd : Word
  opa : Word
  opb : Word
  deriving DecidableEq, Repr

/-- What the host can do between two commands: present the next one (10_state R26) or apply the reset
input (70_reset_and_hazards R290, R291). -/
inductive HostInput where
  | command (c : Command)
  | reset
  deriving DecidableEq, Repr

/-- The state of a run. -/
structure State where
  /-- `MODE` (10_state R21) -/
  mode    : Mode
  /-- `BASE` (10_state R21), zero-extended from its width, which is 64 by default (00_scope R7, log 23) -/
  base    : DWord
  /-- `HALT` (10_state R22) -/
  halt    : Bool
  /-- `FCODE` (10_state R22) -/
  fcode   : Byte
  /-- `FCMD` (10_state R22) -/
  fcmd    : Word
  /-- `CMD` as sampled when the command in execution was accepted (10_state R23, log 5) -/
  cmd     : Word
  /-- `OPA`, likewise -/
  opa     : Word
  /-- `OPB`, likewise -/
  opb     : Word
  /-- `RES0` at the last completion; `none` where the port carries no value (10_state R24, R27, log 6) -/
  res0    : Option Word
  /-- `RES1`, likewise -/
  res1    : Option Word
  /-- `STAT` at the last completion; `none` before the first (10_state R24, R45) -/
  stat    : Option Stat
  /-- `seq`, the host's count of commands completed `OK` (10_state R26) -/
  seq     : Nat
  /-- what the host has yet to present, oldest first (10_state R26, log 1). A finite list, DESIGN CHOICE
  (log 24): R26 lets the host's list be finite or infinite -/
  inputs  : List HostInput
  /-- the transactions of the run, oldest first (20_memory R64, log 7) -/
  trace   : List Transaction
  /-- what the downstream APIC will answer to the next reads (20_memory R63, log 8) -/
  answers : List DWord
  /-- how many reads the run has made: the index of the next free answer (log 8) -/
  reads   : Nat
  /-- the parameters of the run (00_scope R7, log 10) -/
  config  : Config
  deriving DecidableEq, Repr

/-- Why a step of the machine can stop. -/
inductive Fault where
  /-- Raised by `step` when the host presents nothing: no transition exists (10_state R26, log 2).
  Safe: the block would hold its state, and nothing is claimed of a state after the stop. -/
  | noInputPresented
  deriving DecidableEq, Repr

/-- Why a command can have no meaning in the model. -/
inductive Refusal where
  /-- Raised by `exec` alone, for a command without a meaning yet; no arm of it does. Safe: nothing is
  claimed of such a command. -/
  | notModelled (mnemonic : String)
  deriving DecidableEq, Repr

/-- The outcome of a command or of a step. -/
abbrev Result := Host.Outcome State Fault Refusal

/-- The state after reset (10_state R45). The registers, `seq` and the output ports are the spec's; the
input ports, the lists, `reads` and the parameters are named in log 4, 5, 7, 8 and 10. -/
def State.reset : State where
  mode    := .unsel
  base    := 0
  halt    := false
  fcode   := 0
  fcmd    := 0
  cmd     := 0
  opa     := 0
  opb     := 0
  res0    := none
  res1    := none
  stat    := none
  seq     := 0
  inputs  := []
  trace   := []
  answers := []
  reads   := 0
  config  := Config.default

end Sys2Proof.Machine
end

