-- ==== Sys2Proof/Machine/Ops.lean ====
section
/-! DEFINITION. The shared operations: how a command completes, how a fatal is taken, how a command is
refused, how reset leaves the halted state, the transactions, and how a presented input is taken. -/

namespace Sys2Proof.Machine

/-! ### Completion, fatal entry, refusal, reset -/

/-- Step 8 of 60_exceptions R251 and 10_state R26, R27: the results are driven, `STAT` is `OK` and `seq`
advances. -/
def State.complete (s : State) (r0 r1 : Word) : State :=
  { s with res0 := some r0, res1 := some r1, stat := some .ok, seq := s.seq + 1 }

/-- Fatal entry (60_exceptions R252), the one exception of the block: `HALT`, `FCODE`, `FCMD` and
`STAT` are written, the result ports carry no value, nothing else changes. -/
def State.raiseFatal (s : State) (c : FatalCode) : State :=
  { s with halt := true, fcode := c.code, fcmd := s.cmd, stat := some (.fatal c.code),
           res0 := none, res1 := none }

/-- Refusal while `HALT = 1` (60_exceptions R254): `STAT` repeats the first fatal, nothing else. -/
def State.refuse (s : State) : State :=
  { s with stat := some (.fatal s.fcode), res0 := none, res1 := none }

/-- Reset (70_reset_and_hazards R290, R292), the only way out of the halted state (60_exceptions R258):
the block's registers and the host's `seq` restart; nothing is emitted, the downstream side and the
parameters are not reached. -/
def State.applyReset (s : State) : State :=
  { State.reset with inputs := s.inputs, trace := s.trace, answers := s.answers,
                     reads := s.reads, config := s.config }

/-- A command either completes in full or is fatal and leaves no other trace (60_exceptions R252, R256):
what a failed check abandons is the state built so far. -/
def State.conclude (s : State) : Except FatalCode State → Result
  | .ok s' => .next s'
  | .error c => .next (s.raiseFatal c)

/-! ### Transactions -/

/-- A transaction is recorded after all earlier ones (20_memory R62, R64). -/
def State.emit (s : State) (t : Transaction) : State :=
  { s with trace := s.trace ++ [t] }

/-- What the downstream APIC answers to the next read (20_memory R63): the run's own input where it
lists one, else a free value. -/
def State.answer (s : State) : DWord :=
  match s.answers with
  | a :: _ => a
  | [] => Config.freeAnswer s.reads

/-- The answer has been given; the next read gets another (20_memory R63). -/
def State.takeAnswer (s : State) : State :=
  { s with answers := s.answers.tail, reads := s.reads + 1 }

/-- `MsrRead(idx)` (20_memory R50). -/
def State.msrRead (s : State) (idx : Word) : DWord × State :=
  (s.answer, (s.emit (.msrRead idx)).takeAnswer)

/-- `MsrWrite(idx, v)` (20_memory R51). -/
def State.msrWrite (s : State) (idx : Word) (v : DWord) : State :=
  s.emit (.msrWrite idx v)

/-- `MemRead(addr, 4)` (20_memory R52): the answer's low 32 bits (log 8). -/
def State.memRead (s : State) (addr : DWord) : Word × State :=
  (s.answer.setWidth 32, (s.emit (.memRead addr)).takeAnswer)

/-- `MemWrite(addr, 4, v)` (20_memory R53). -/
def State.memWrite (s : State) (addr : DWord) (v : Word) : State :=
  s.emit (.memWrite addr v)

/-- `Fence()` (20_memory R54, R65). -/
def State.fence (s : State) : State :=
  s.emit .fence

/-- The byte address of a register in the mapped page (20_memory R56). -/
def State.pageAddr (s : State) (off : BitVec 12) : DWord :=
  s.base + off.setWidth 64

/-- One read of a routed register in the selected mode (44_mode_dispatch R212): in x2APIC mode bits
31:0 of the MSR (R214). -/
def State.readReg (s : State) (r : RoutedReg) : Word × State :=
  if s.mode = .x2apic then
    ((s.msrRead (s.config.msr r)).1.setWidth 32, (s.msrRead (s.config.msr r)).2)
  else
    s.memRead (s.pageAddr (s.config.off r))

/-- One write of a routed register in the selected mode (44_mode_dispatch R218): in x2APIC mode
zero-extended (R214). -/
def State.writeReg (s : State) (r : RoutedReg) (v : Word) : State :=
  if s.mode = .x2apic then
    s.msrWrite (s.config.msr r) (v.setWidth 64)
  else
    s.memWrite (s.pageAddr (s.config.off r)) v

/-- The writes of `MODE.SELECT` (44_mode_dispatch R210): `BASE` is written for xAPIC only. -/
def State.selectMode (s : State) (m : Backend) (b : DWord) : State :=
  match m with
  | .xapic => { s with mode := .xapic, base := b }
  | .x2apic => { s with mode := .x2apic }

/-! ### Taking what the host presents -/

/-- The host's next input and the state in which it has been taken from the list. -/
def State.takeInput (s : State) : Option (HostInput × State) :=
  match s.inputs with
  | [] => none
  | i :: rest => some (i, { s with inputs := rest })

/-- Acceptance of a command: the ports are sampled once (10_state R23, 20_memory R67). -/
def State.sample (s : State) (c : Command) : State :=
  { s with cmd := c.cmd, opa := c.opa, opb := c.opb }

/-- The state in which the host's next input is this command word: the next command keeps its operand
words, and where none is next the operand words are those last sampled (log 4). -/
def State.presentWord (s : State) (w : Word) : State :=
  match s.inputs with
  | .command c :: rest => { s with inputs := .command { c with cmd := w } :: rest }
  | rest => { s with inputs := .command { cmd := w, opa := s.opa, opb := s.opb } :: rest }

end Sys2Proof.Machine
end

