-- ==== Sys2Proof/Machine/Operands.lean ====
section
/-! DEFINITION. The operand forms (30_encoding R82 to R86): the operand ports taken together as one 64-bit
value, and the fields of the raw words that more than one command reads. `OPA` and `OPB` alone are the
fields `opa` and `opb` of State; `sel` and `imm8` are the arguments of the constructors of Instr. -/

namespace Sys2Proof.Machine

/-- `OPB` in the upper and `OPA` in the lower half: the MSR copy of the `ABASE` commands and the word that
carries the base pointer of `MODE.SELECT` (41_register_value_types R131, 44_mode_dispatch R210). -/
def State.operand64 (s : State) : DWord :=
  concat s.opb s.opa

/-- The base pointer handed to `MODE.SELECT` (44_mode_dispatch R210): with the default width all of
`{OPB, OPA}`; with a narrower one (00_scope R7) its low bits, DEDUCED (log 23). -/
def State.basePointer (s : State) : DWord :=
  (s.operand64.setWidth s.config.baseWidth.val).setWidth 64

/-- Bits 10:8, the delivery mode of an LVT word and of the ICR low half (10_state R34, R38). -/
def deliveryField (w : Word) : Word := getBits w 10 8

/-- Bits 18:17, the timer mode of an LVT word (10_state R34). -/
def timerField (w : Word) : Word := getBits w 18 17

/-- Bits 7:0, the vector of an LVT word and of the ICR low half (10_state R34, R38). -/
def vectorField (w : Word) : Word := getBits w 7 0

/-- Bits 19:18, the destination shorthand of the ICR low half (10_state R38). -/
def shorthandField (w : Word) : Word := getBits w 19 18

end Sys2Proof.Machine
end

