-- ==== Sys2Proof/Machine/InterruptCommand.lean ====
section
/-! DEFINITION. The commands of 43_interrupt_command. All are pure: an interrupt command is the pair of a
low and a high word (R180). -/

namespace Sys2Proof.Machine

/-- R181: the delivery modes with which a vector is forbidden; with all others it is required. -/
def novec (dm : DeliveryMode) : Bool :=
  dm = .systemManagement || dm = .init

/-- R181: the validation rules of R182, in the order of R183. -/
def checkDescription (d : IcrDescription) : Except FatalCode Unit := do
  raiseIf (d.asrt = .deassert ∧ d.dm ≠ .init) .icrDeassertNotInit
  raiseIf (d.asrt = .deassert ∧ d.trig = .edge) .icrDeassertNotLevel
  raiseIf (d.vp = true ∧ novec d.dm = true) .icrVectorForbidden
  raiseIf (d.vp = false ∧ novec d.dm = false) .icrVectorRequired
  raiseIf (d.asrt = .deassert ∧ d.dkind ≠ .allIncludingSelf) .icrDeassertDestination

/-- R181, R184: the low half of a description, built from the all-zero word. -/
def buildLow (d : IcrDescription) : Except FatalCode Word := do
  let low ← setBits 0 7 0 (d.vec.setWidth 32)
  let low ← setBits low 10 8 (d.dm.code.setWidth 32)
  let low := setBit low 11 d.dstm.bit
  let low := setBit low 14 d.asrt.bit
  let low := setBit low 15 d.trig.bit
  setBits low 19 18 (d.dkind.code.setWidth 32)

/-- R181, R184: the high half carries the id for an explicit destination only. -/
def buildHigh (d : IcrDescription) (id : Word) : Word :=
  if d.dkind = .explicitId then id else 0

/-- R181: checked construction of an interrupt command. -/
def execIcrBuild (d : IcrDescription) (s : State) : Result :=
  s.conclude do
    checkDescription d
    let low ← buildLow d
    return s.complete low (buildHigh d s.opa)

/-- R186: Init, Physical, Level, Assert, no vector, explicit destination. -/
def execIcrInit (s : State) : Result :=
  s.conclude (.ok (s.complete 0x0000C500 s.opa))

/-- R187: StartUp, Physical, Edge, Assert, the given vector, explicit destination. -/
def execIcrSipi (v : Byte) (s : State) : Result :=
  s.conclude (.ok (s.complete (0x00004600 ||| v.setWidth 32) s.opa))

/-- R189: the optional vector and whether it is present, read off the delivery mode. -/
def execIcrGetvec (s : State) : Result :=
  s.conclude do
    let d := deliveryField s.opa
    raiseIf (d = 0b011#32) .reservedEncoding
    if d = 0b010#32 ∨ d = 0b101#32 then
      return s.complete 0 0
    else
      return s.complete (vectorField s.opa) 1

/-- R190: the delivery-mode code; code 3 names no mode and raises. -/
def execIcrGetdm (s : State) : Result :=
  s.conclude do
    let d := deliveryField s.opa
    raiseIf (d = 0b011#32) .reservedEncoding
    return s.complete d 0

/-- R191: the destination mode, bit 11. -/
def execIcrGetdstm (s : State) : Result :=
  s.conclude (.ok (s.complete (getBit s.opa 11) 0))

/-- R192: the trigger mode, bit 15. -/
def execIcrGettrig (s : State) : Result :=
  s.conclude (.ok (s.complete (getBit s.opa 15) 0))

/-- R193: the assert mode, bit 14. -/
def execIcrGetasrt (s : State) : Result :=
  s.conclude (.ok (s.complete (getBit s.opa 14) 0))

/-- R194: the destination description; the id counts for an explicit destination only. -/
def execIcrGetdest (s : State) : Result :=
  let k := shorthandField s.opa
  s.conclude (.ok (s.complete k (if k = 0 then s.opb else 0)))

end Sys2Proof.Machine
end

