-- ==== Sys2Proof/Machine/LocalVector.lean ====
section
/-! DEFINITION. The commands of 42_local_vector_table. All are pure: the LVT value is the word on `OPA`,
its kind is carried by the command (R150). -/

namespace Sys2Proof.Machine

/-- The `Deliverable` kinds (10_state R35). -/
def deliverable : LvtKind → Bool
  | .cmci => true
  | .performanceMonitors => true
  | .thermalSensor => true
  | .timer => false
  | .lint0 => false
  | .lint1 => false
  | .error => false

/-- The kind that has a `timer_mode` field (10_state R35). -/
def hasTimerMode : LvtKind → Bool
  | .timer => true
  | .cmci => false
  | .lint0 => false
  | .lint1 => false
  | .error => false
  | .performanceMonitors => false
  | .thermalSensor => false

/-- R152: the vector; the reserved ones raise under `P_DEBUG_CHECKS`. Every kind alike (R151). -/
def execLvtGetvec (_k : LvtKind) (s : State) : Result :=
  s.conclude do
    let v := vectorField s.opa
    raiseIf (s.config.debugChecks = true ∧ v ≤ 15#32) .lvtVectorReservedRead
    return s.complete v 0

/-- R153: replace the vector; 0 to 15 raise for every kind. -/
def execLvtSetvec (_k : LvtKind) (v : Byte) (s : State) : Result :=
  s.conclude do
    raiseIf (v ≤ 15#8) .lvtVectorReserved
    let w ← setBits s.opa 7 0 (v.setWidth 32)
    return s.complete w 0

/-- R154: the delivery status, bit 12. -/
def execLvtGetds (_k : LvtKind) (s : State) : Result :=
  s.conclude (.ok (s.complete (getBit s.opa 12) 0))

/-- R155: the mask, bit 16. -/
def execLvtGetmask (_k : LvtKind) (s : State) : Result :=
  s.conclude (.ok (s.complete (getBit s.opa 16) 0))

/-- R156: replace the mask. -/
def execLvtSetmask (_k : LvtKind) (m : Bool) (s : State) : Result :=
  s.conclude (.ok (s.complete (setBit s.opa 16 m) 0))

/-- R158: the delivery-mode code; code 3 names no mode and raises. -/
def execLvtGetdm (k : LvtKind) (s : State) : Result :=
  s.conclude do
    raiseIf (deliverable k = false) .kindCapabilityMismatch
    let d := deliveryField s.opa
    raiseIf (d = 0b011#32) .reservedEncoding
    return s.complete d 0

/-- R159: replace the delivery mode. -/
def execLvtSetdm (k : LvtKind) (d : DeliveryMode) (s : State) : Result :=
  s.conclude do
    raiseIf (deliverable k = false) .kindCapabilityMismatch
    let w ← setBits s.opa 10 8 (d.code.setWidth 32)
    return s.complete w 0

/-- R160: the timer-mode code; code 3 names no mode and raises. -/
def execLvtGettm (k : LvtKind) (s : State) : Result :=
  s.conclude do
    raiseIf (hasTimerMode k = false) .kindCapabilityMismatch
    let t := timerField s.opa
    raiseIf (t = 0b11#32) .reservedEncoding
    return s.complete t 0

/-- R161: replace the timer mode; TSC-Deadline needs the capability. -/
def execLvtSettm (k : LvtKind) (t : TimerMode) (s : State) : Result :=
  s.conclude do
    raiseIf (hasTimerMode k = false) .kindCapabilityMismatch
    raiseIf (t = .tscDeadline ∧ s.config.capTscDeadline = false) .tscDeadlineUnsupported
    let w ← setBits s.opa 18 17 (t.code.setWidth 32)
    return s.complete w 0

end Sys2Proof.Machine
end

