-- ==== Sys2Proof/Machine/ModeDispatch.lean ====
section
/-! DEFINITION. The commands of 44_mode_dispatch: the selection of the mode and the logical register
accesses it turns into downstream transactions. Every check precedes the first transaction (R256). -/

namespace Sys2Proof.Machine

/-- R210: the mode is selected once; an xAPIC base is page aligned. -/
def execModeSelect (m : Backend) (s : State) : Result :=
  s.conclude do
    raiseIf (s.mode ≠ .unsel) .modeAlreadySelected
    raiseIf (m = .xapic ∧ getBits s.basePointer 11 0 ≠ 0) .misalignedBase
    return (s.selectMode m s.basePointer).complete 0 0

/-- R211: every other dispatch command needs a selected mode. -/
def requireMode (s : State) : Except FatalCode Unit :=
  raiseIf (s.mode = .unsel) .modeNotSelected

/-- R216: the placeholders are fatal on every access. -/
def route (r : LogicalReg) : Except FatalCode RoutedReg :=
  match r.routed with
  | some rr => .ok rr
  | none => .error .unimplemented

/-- R212, R213: in xAPIC mode the identifier is 8 bits of the ID word; every other word is whole. -/
def adaptRead (s : State) (rr : RoutedReg) (w : Word) : Word :=
  if rr = .id ∧ s.mode = .xapic then
    getBits w (s.config.xapicIdLsb.val + 7) s.config.xapicIdLsb.val
  else w

/-- R212: one read of one logical register. -/
def execRegRd (r : LogicalReg) (s : State) : Result :=
  s.conclude do
    requireMode s
    let rr ← route r
    raiseIf (rr.readable = false) .illegalRegisterAccess
    return (s.readReg rr).2.complete (adaptRead s rr (s.readReg rr).1) 0

/-- R219: a write of the timer entry that selects TSC-Deadline is followed by a fence, in both modes. -/
def fenceAfter (rr : RoutedReg) (w : Word) (s : State) : State :=
  if rr = .lvtTimer ∧ timerField w = 0b10#32 then s.fence else s

/-- R218: one write of one logical register, the word exactly as given. -/
def execRegWr (r : LogicalReg) (s : State) : Result :=
  s.conclude do
    requireMode s
    let rr ← route r
    raiseIf (rr.writable = false) .illegalRegisterAccess
    return (fenceAfter rr s.opa (s.writeReg rr s.opa)).complete 0 0

/-- R220: the clear half of the error-status protocol writes zero. -/
def execEsrClr (s : State) : Result :=
  s.conclude do
    requireMode s
    return (s.writeReg .esr 0).complete 0 0

/-- R221, x2APIC: the high half first, or both halves at once. -/
def sendX2 (s : State) : State :=
  match s.config.x2IcrForm with
  | .split =>
    (s.msrWrite s.config.x2IcrHighMsr (s.opb.setWidth 64)).msrWrite (s.config.msr .icr)
      (s.opa.setWidth 64)
  | .merged => s.msrWrite (s.config.msr .icr) (concat s.opb s.opa)

/-- R222, xAPIC: the high half with the id at its place first, then the low half. -/
def sendXapic (s : State) : State :=
  (s.memWrite (s.pageAddr s.config.regMap.icrHighOff)
      (getBits s.opb 7 0 <<< s.config.xapicIdLsb.val)).memWrite
    (s.pageAddr (s.config.off .icr)) s.opa

/-- R221, R222: LowPriority is refused in x2APIC mode, an id above 0xFF in xAPIC mode. -/
def execIcrSend (s : State) : Result :=
  s.conclude do
    requireMode s
    raiseIf (s.mode = .x2apic ∧ deliveryField s.opa = 0b001#32) .x2LowPriorityUnsupported
    raiseIf (s.mode ≠ .x2apic ∧ s.opb > 0xFF#32) .destinationOutOfRange
    if s.mode = .x2apic then
      return (sendX2 s).complete 0 0
    else
      return (sendXapic s).complete 0 0

/-- R224: one write of zero. -/
def execEoi (s : State) : Result :=
  s.conclude do
    requireMode s
    return (s.writeReg .eoi 0).complete 0 0

end Sys2Proof.Machine
end

