-- ==== Sys2Proof/Machine/Flags.lean ====
section
/-! DEFINITION. Flags. The block has no arithmetic flag, carry or condition code (10_state R28), so no
command computes one. What it does have is the flag set of the error-status word: 10_state R32. -/

namespace Sys2Proof.Machine

/-- The flags of the error-status word (10_state R32). The source names `SENT_ILLEGAL_VECTOR`; the other
names are the spec's from general knowledge, PRESUMED (log 17), and no command depends on a name. -/
inductive EsrFlag where
  | sendChecksumError
  | receiveChecksumError
  | sendAcceptError
  | receiveAcceptError
  | redirectableIpi
  | sentIllegalVector
  | receivedIllegalVector
  | illegalRegisterAddress
  deriving DecidableEq, Repr

/-- The bit position of a flag (10_state R32), which is the operand of `ESR.TEST`. -/
def EsrFlag.index : EsrFlag → Fin 8
  | .sendChecksumError => 0
  | .receiveChecksumError => 1
  | .sendAcceptError => 2
  | .receiveAcceptError => 3
  | .redirectableIpi => 4
  | .sentIllegalVector => 5
  | .receivedIllegalVector => 6
  | .illegalRegisterAddress => 7

/-- The flag set of a raw error-status word: bits 7:0, the reserved bits dropped
(41_register_value_types R124). -/
def flagSet (w : Word) : Word := getBits w 7 0

/-- Membership of the flag with this bit position, as 0 or 1 (41_register_value_types R125). -/
def flagTest (w : Word) (i : Fin 8) : Word := getBit w i.val

/-- The union of two flag sets (41_register_value_types R126). -/
def flagUnion (a b : Word) : Word := flagSet a ||| flagSet b

end Sys2Proof.Machine
end

