-- ==== Sys2Proof/Machine/ValueTypes.lean ====
section
/-! DEFINITION. The commands of 41_register_value_types: the Version, ErrorStatus,
TimerDivideConfiguration and IA32_APIC_BASE words. All are pure: they read the ports and drive the
result ports. -/

namespace Sys2Proof.Machine

/-! ### Version -/

/-- R120: the `version` field, bits 7:0. -/
def execVerVersion (s : State) : Result :=
  s.conclude (.ok (s.complete (getBits s.opa 7 0) 0))

/-- R121: the `max_lvt_entry` field, bits 23:16. -/
def execVerMaxlvt (s : State) : Result :=
  s.conclude (.ok (s.complete (getBits s.opa 23 16) 0))

/-- R122: the `can_suppress_eoi_broadcast` field, bit 24. -/
def execVerEoisup (s : State) : Result :=
  s.conclude (.ok (s.complete (getBit s.opa 24) 0))

/-! ### ErrorStatus -/

/-- R124: the flag set of a raw word. -/
def execEsrDec (s : State) : Result :=
  s.conclude (.ok (s.complete (flagSet s.opa) 0))

/-- R125: membership of one flag. -/
def execEsrTest (i : Fin 8) (s : State) : Result :=
  s.conclude (.ok (s.complete (flagTest s.opa i) 0))

/-- R126: the union of two flag sets. -/
def execEsrUnion (s : State) : Result :=
  s.conclude (.ok (s.complete (flagUnion s.opa s.opb) 0))

/-! ### TimerDivideConfiguration -/

/-- `TDC_PATTERN` (R128): the bit pattern of the divisor with each exponent. -/
def tdcPattern : List Word :=
  [0b1011, 0b0000, 0b0001, 0b0010, 0b0011, 0b1000, 0b1001, 0b1010]

/-- `TDC_EXP` (R129): the exponent behind each value of the selector bits 3, 1, 0. -/
def tdcExp : List Word :=
  [1, 2, 3, 4, 5, 6, 7, 0]

/-- R129: bits 3, 1 and 0 of a divide configuration, brought together. -/
def tdcSelector (w : Word) : Word :=
  (getBit w 3 <<< 2) ||| (getBit w 1 <<< 1) ||| getBit w 0

/-- R128: the raw word of the divisor with exponent `e`. -/
def execTdcEnc (e : Fin 8) (s : State) : Result :=
  s.conclude (.ok (s.complete (tdcPattern.getD e.val 0) 0))

/-- R129: the exponent and the divisor of a raw word. -/
def execTdcDec (s : State) : Result :=
  let e := tdcExp.getD (tdcSelector s.opa).toNat 0
  s.conclude (.ok (s.complete e (1 <<< e.toNat)))

/-! ### IA32_APIC_BASE -/

/-- R131: the hardware-enable bit, bit 11. -/
def execAbaseEn (s : State) : Result :=
  s.conclude (.ok (s.complete (getBit s.opa 11) 0))

/-- R132: the x2-enable bit, bit 10. -/
def execAbaseX2 (s : State) : Result :=
  s.conclude (.ok (s.complete (getBit s.opa 10) 0))

/-- R133: the physical base address, bits 35:12 of the MSR at their place. -/
def execAbaseAddr (s : State) : Result :=
  let a := getBits s.operand64 35 12 <<< 12
  s.conclude (.ok (s.complete (lowWord a) (highWord a)))

end Sys2Proof.Machine
end

