-- ==== Sys2Proof/Machine/Dispatch.lean ====
section
/-! DEFINITION. The meaning of each command (30_encoding R87), one arm per constructor. The common checks
of 60_exceptions R251, refusal while halted and legality of the word, are made by the step before. -/

namespace Sys2Proof.Machine

def exec (i : Instr) (s : State) : Host.Outcome State Fault Refusal :=
  match i with
  | .modeSelect m => Sys2Proof.Machine.execModeSelect m s
  | .verVersion => Sys2Proof.Machine.execVerVersion s
  | .verMaxlvt => Sys2Proof.Machine.execVerMaxlvt s
  | .verEoisup => Sys2Proof.Machine.execVerEoisup s
  | .esrDec => Sys2Proof.Machine.execEsrDec s
  | .esrTest n => Sys2Proof.Machine.execEsrTest n s
  | .esrUnion => Sys2Proof.Machine.execEsrUnion s
  | .tdcEnc e => Sys2Proof.Machine.execTdcEnc e s
  | .tdcDec => Sys2Proof.Machine.execTdcDec s
  | .abaseEn => Sys2Proof.Machine.execAbaseEn s
  | .abaseX2 => Sys2Proof.Machine.execAbaseX2 s
  | .abaseAddr => Sys2Proof.Machine.execAbaseAddr s
  | .lvtGetvec k => Sys2Proof.Machine.execLvtGetvec k s
  | .lvtSetvec k v => Sys2Proof.Machine.execLvtSetvec k v s
  | .lvtGetds k => Sys2Proof.Machine.execLvtGetds k s
  | .lvtGetmask k => Sys2Proof.Machine.execLvtGetmask k s
  | .lvtSetmask k m => Sys2Proof.Machine.execLvtSetmask k m s
  | .lvtGetdm k => Sys2Proof.Machine.execLvtGetdm k s
  | .lvtSetdm k d => Sys2Proof.Machine.execLvtSetdm k d s
  | .lvtGettm k => Sys2Proof.Machine.execLvtGettm k s
  | .lvtSettm k t => Sys2Proof.Machine.execLvtSettm k t s
  | .icrBuild d => Sys2Proof.Machine.execIcrBuild d s
  | .icrInit => Sys2Proof.Machine.execIcrInit s
  | .icrSipi v => Sys2Proof.Machine.execIcrSipi v s
  | .icrGetvec => Sys2Proof.Machine.execIcrGetvec s
  | .icrGetdm => Sys2Proof.Machine.execIcrGetdm s
  | .icrGetdstm => Sys2Proof.Machine.execIcrGetdstm s
  | .icrGettrig => Sys2Proof.Machine.execIcrGettrig s
  | .icrGetasrt => Sys2Proof.Machine.execIcrGetasrt s
  | .icrGetdest => Sys2Proof.Machine.execIcrGetdest s
  | .regRd r => Sys2Proof.Machine.execRegRd r s
  | .regWr r => Sys2Proof.Machine.execRegWr r s
  | .esrClr => Sys2Proof.Machine.execEsrClr s
  | .icrSend => Sys2Proof.Machine.execIcrSend s
  | .eoi => Sys2Proof.Machine.execEoi s

end Sys2Proof.Machine
end

