-- ==== Sys2Proof/Machine/Step.lean ====
section
/-! DEFINITION. One step: the host's next input is taken (10_state R26). Reset is applied
(70_reset_and_hazards R290); a command passes the common checks of 60_exceptions R251 in their order,
refusal while halted (R254), then legality of the word (R255), and is executed. -/

namespace Sys2Proof.Machine

/-- One command, one atomic step (70_reset_and_hazards R310). -/
def step (s : State) : Host.Outcome State Fault Refusal :=
  match s.takeInput with
  | none => .fault .noInputPresented
  | some (.reset, s1) => .next s1.applyReset
  | some (.command c, s1) =>
    if s1.halt then
      .next s1.refuse
    else
      match decode c.cmd with
      | .error _ => .next ((s1.sample c).raiseFatal .illegalCommand)
      | .ok i => exec i (s1.sample c)

/-- The state in which the command word with these bits is what the host presents next (log 4). -/
def State.withFetchWord (s : State) (nbits w : Nat) : State :=
  s.presentWord (BitVec.ofNat 32 (w % 2 ^ nbits))

end Sys2Proof.Machine
end

