-- ==== Sys2Proof/Safety.lean ====
section
/-! DEFINITION. The terms in which claims about runs are made: which parameters are admissible, which
transactions the block may emit, which commands are pure, the invariant of the state, and the decision
of the mode-selection collaborator. -/

namespace Sys2Proof

/-- The MSR indices the block may use (20_memory R55, R57). -/
def Config.indices (c : Config) : List Word :=
  [c.msr .id, c.msr .version, c.msr .eoi, c.msr .esr, c.msr .lvtCmci, c.msr .icr, c.x2IcrHighMsr,
   c.msr .lvtTimer, c.msr .lvtThermal, c.msr .lvtPerf, c.msr .lvtLint0, c.msr .lvtLint1,
   c.msr .lvtError, c.msr .tic, c.msr .tcc, c.msr .tdc]

/-- The page offsets the block may use (20_memory R55, R57). -/
def Config.offsets (c : Config) : List (BitVec 12) :=
  [c.off .id, c.off .version, c.off .eoi, c.off .esr, c.off .lvtCmci, c.off .icr,
   c.regMap.icrHighOff, c.off .lvtTimer, c.off .lvtThermal, c.off .lvtPerf, c.off .lvtLint0,
   c.off .lvtLint1, c.off .lvtError, c.off .tic, c.off .tcc, c.off .tdc]

/-- Admissible parameters: every page offset is a multiple of 16, which 20_memory R59 says of every
address the block forms (log 11). -/
def Config.wf (c : Config) : Bool :=
  c.offsets.all fun o => o.extractLsb' 0 4 == 0

namespace Machine

/-- The 18 cause codes a command can record (60_exceptions R250); `BitfieldOverflow` is not among them
(40_bitfield_primitives R115). -/
def reachableCodes : List Byte :=
  [0x01, 0x02, 0x03, 0x10, 0x11, 0x12, 0x20, 0x21, 0x22, 0x23, 0x24, 0x30, 0x31, 0x32, 0x33, 0x34,
   0x35, 0x36]

/-- The accesses the block may make: an MSR index of the map, or an address whose place in its page is
an offset of the map (20_memory R57, R71). -/
def Transaction.routed (c : Config) : Transaction → Bool
  | .msrRead idx => c.indices.contains idx
  | .msrWrite idx _ => c.indices.contains idx
  | .memRead addr => c.offsets.contains (addr.extractLsb' 0 12)
  | .memWrite addr _ => c.offsets.contains (addr.extractLsb' 0 12)
  | .fence => true

/-- What a transaction belongs to: the MSR space is used in x2APIC mode only, the memory-mapped space
in xAPIC mode only (20_memory R50 to R53), the fence in both. -/
def Transaction.allowedIn (m : Mode) : Transaction → Bool
  | .msrRead _ => m == .x2apic
  | .msrWrite _ _ => m == .x2apic
  | .memRead _ => m == .xapic
  | .memWrite _ _ => m == .xapic
  | .fence => m != .unsel

/-- The 29 pure commands (70_reset_and_hazards R293): those of files 41 to 43. -/
def isPure : Instr → Bool
  | .modeSelect _ => false
  | .regRd _ => false
  | .regWr _ => false
  | .esrClr => false
  | .icrSend => false
  | .eoi => false
  | .verVersion => true
  | .verMaxlvt => true
  | .verEoisup => true
  | .esrDec => true
  | .esrTest _ => true
  | .esrUnion => true
  | .tdcEnc _ => true
  | .tdcDec => true
  | .abaseEn => true
  | .abaseX2 => true
  | .abaseAddr => true
  | .lvtGetvec _ => true
  | .lvtSetvec _ _ => true
  | .lvtGetds _ => true
  | .lvtGetmask _ => true
  | .lvtSetmask _ _ => true
  | .lvtGetdm _ => true
  | .lvtSetdm _ _ => true
  | .lvtGettm _ => true
  | .lvtSettm _ _ => true
  | .icrBuild _ => true
  | .icrInit => true
  | .icrSipi _ => true
  | .icrGetvec => true
  | .icrGetdm => true
  | .icrGetdstm => true
  | .icrGettrig => true
  | .icrGetasrt => true
  | .icrGetdest => true

/-- The invariant of the state: what holds at reset and is kept by every step. -/
structure State.Inv (s : State) : Prop where
  /-- the parameters are admissible -/
  configWf    : s.config.wf = true
  /-- 60_exceptions R253: while `HALT = 0`, `FCODE = 0` and `FCMD = 0` -/
  liveCode    : s.halt = false → s.fcode = 0 ∧ s.fcmd = 0
  /-- 60_exceptions R250, R252: a halted block holds the code of a fatal that a command can raise -/
  haltedCode  : s.halt = true → s.fcode ∈ reachableCodes
  /-- 60_exceptions R252, R254: `STAT` of a halted block is its fatal, and no result has a value -/
  haltedStat  : s.halt = true → s.stat = some (.fatal s.fcode) ∧ s.res0 = none ∧ s.res1 = none
  /-- 10_state R24: a live block has completed no command since reset, or its last one `OK` -/
  liveStat    : s.halt = false → s.stat = none ∨ s.stat = some .ok
  /-- 44_mode_dispatch R210: the base is page aligned -/
  baseAligned : s.base.extractLsb' 0 12 = 0
  /-- 00_scope R7, 10_state R21: the base has no bit above its width -/
  baseFits    : s.base.toNat < 2 ^ s.config.baseWidth.val
  /-- 44_mode_dispatch R210: without xAPIC mode the base keeps its reset value -/
  baseUnused  : s.mode ≠ .xapic → s.base = 0
  /-- 20_memory R57: every transaction of the run is one of the map -/
  traceRouted : ∀ t ∈ s.trace, t.routed s.config = true

/-! ### The terms of the statements -/

/-- The state after a command that completed `OK` and whose only effects are its results
(60_exceptions R251 step 8): every other field is as before. -/
def okState (s : State) (r0 r1 : Word) : State :=
  { s with res0 := some r0, res1 := some r1, stat := some .ok, seq := s.seq + 1 }

/-- The state after a fatal with this code (60_exceptions R252): every other field is as before. -/
def fatalState (s : State) (code : Byte) : State :=
  { s with halt := true, fcode := code, fcmd := s.cmd, stat := some (.fatal code),
           res0 := none, res1 := none }

/-- The state after these transactions have been emitted. -/
def emitted (s : State) (ts : List Transaction) : State :=
  { s with trace := s.trace ++ ts }

/-- The state after one read has been emitted and its answer consumed (20_memory R63). -/
def readDone (s : State) (t : Transaction) : State :=
  { s with trace := s.trace ++ [t], answers := s.answers.tail, reads := s.reads + 1 }

/-- The downstream APIC answers `a` to the next read: the run lists it, or lists nothing and it is the
free value (20_memory R63, log 8). -/
def answersNext (s : State) (a : DWord) : Prop :=
  s.answers.head? = some a ∨ (s.answers = [] ∧ a = Config.freeAnswer s.reads)

/-- `RES0` of a command given the word `w` on `OPA`, when the command answers a next state. -/
def resultOn (s : State) (i : Instr) (w : Word) : Option Word :=
  match exec i { s with opa := w } with
  | .next t => t.res0
  | .fault _ => none
  | .refused _ => none

/-- The register word a transaction carries towards the downstream APIC, whatever the mode. -/
def Transaction.payload : Transaction → Option Word
  | .msrRead _ => none
  | .msrWrite _ v => some (v.setWidth 32)
  | .memRead _ => none
  | .memWrite _ v => some v
  | .fence => none

/-- The commands whose rule names the port `OPA` (10_state R23, 30_encoding R87). -/
def usesOpa : Instr → Bool
  | .modeSelect m => m == .xapic
  | .verVersion => true
  | .verMaxlvt => true
  | .verEoisup => true
  | .esrDec => true
  | .esrTest _ => true
  | .esrUnion => true
  | .tdcEnc _ => false
  | .tdcDec => true
  | .abaseEn => true
  | .abaseX2 => true
  | .abaseAddr => true
  | .lvtGetvec _ => true
  | .lvtSetvec _ _ => true
  | .lvtGetds _ => true
  | .lvtGetmask _ => true
  | .lvtSetmask _ _ => true
  | .lvtGetdm _ => true
  | .lvtSetdm _ _ => true
  | .lvtGettm _ => true
  | .lvtSettm _ _ => true
  | .icrBuild d => d.dkind == .explicitId
  | .icrInit => true
  | .icrSipi _ => true
  | .icrGetvec => true
  | .icrGetdm => true
  | .icrGetdstm => true
  | .icrGettrig => true
  | .icrGetasrt => true
  | .icrGetdest => true
  | .regRd _ => false
  | .regWr _ => true
  | .esrClr => false
  | .icrSend => true
  | .eoi => false

/-- The commands whose rule reads the port `OPB` (10_state R23, 30_encoding R87, 41 R131, R132). -/
def usesOpb : Instr → Bool
  | .modeSelect m => m == .xapic
  | .verVersion => false
  | .verMaxlvt => false
  | .verEoisup => false
  | .esrDec => false
  | .esrTest _ => false
  | .esrUnion => true
  | .tdcEnc _ => false
  | .tdcDec => false
  | .abaseEn => false
  | .abaseX2 => false
  | .abaseAddr => true
  | .lvtGetvec _ => false
  | .lvtSetvec _ _ => false
  | .lvtGetds _ => false
  | .lvtGetmask _ => false
  | .lvtSetmask _ _ => false
  | .lvtGetdm _ => false
  | .lvtSetdm _ _ => false
  | .lvtGettm _ => false
  | .lvtSettm _ _ => false
  | .icrBuild _ => false
  | .icrInit => false
  | .icrSipi _ => false
  | .icrGetvec => false
  | .icrGetdm => false
  | .icrGetdstm => false
  | .icrGettrig => false
  | .icrGetasrt => false
  | .icrGetdest => true
  | .regRd _ => false
  | .regWr _ => false
  | .esrClr => false
  | .icrSend => true
  | .eoi => false

end Machine

/-- The decision of the mode-selection collaborator (41_register_value_types R134): from the
hardware-enable and the x2-enable bit, the mode to select, if any. The block does not enforce it. -/
def hostModeChoice (hwEnabled x2Enabled : Bool) : Option Backend :=
  match hwEnabled, x2Enabled with
  | true, true => some .x2apic
  | true, false => some .xapic
  | false, _ => none

/-- The `MODE.SELECT` the host presents after discovery (70_reset_and_hazards R294, steps 2 to 5): from
its copy of IA32_APIC_BASE and, for xAPIC, the mapped pointer. -/
def hostBootCommand (msr ptr : DWord) : Option Machine.Command :=
  (hostModeChoice (msr.getLsbD 11) (msr.getLsbD 10)).map fun m =>
    { cmd := encode (.modeSelect m), opa := ptr.setWidth 32, opb := (ptr >>> 32).setWidth 32 }

end Sys2Proof
end

