-- ==== Sys2Proof/Certificates/Slice0/Obligations.lean ====
section
/-! DEFINITION. The statements for the provers. A next state is written out with `okState`, `fatalState`,
`emitted` and `readDone` of Safety.lean, so each statement also says what stays as it was: the five
registers of the block, the trace, the parameters and the host's side. -/

open Sys2Proof Sys2Proof.Machine

/-! ### Reset, the invariant, the step -/

/-- 10_state R45: what reset leaves in the block, on the output ports and in `seq`. -/
def Obligations.ResetLeavesSpecifiedValues : Prop :=
  State.reset.mode = .unsel ∧ State.reset.base = 0 ∧ State.reset.halt = false ∧
    State.reset.fcode = 0 ∧ State.reset.fcmd = 0 ∧ State.reset.seq = 0 ∧
    State.reset.res0 = none ∧ State.reset.res1 = none ∧ State.reset.stat = none

/-- The invariant holds after reset. -/
def Obligations.ResetSatisfiesInvariant : Prop :=
  State.reset.Inv

/-- Every step keeps the invariant, from every state that has it. -/
def Obligations.StepKeepsInvariant : Prop :=
  ∀ s s' : State, s.Inv → step s = .next s' → s'.Inv

/-- 70_reset_and_hazards R290, R292: what a reset applied by the host does, from any state. The values
of the sampled input ports after it are the model's choice (log 5) and not stated. -/
def Obligations.HostResetRestartsBlock : Prop :=
  ∀ (s : State) (rest : List HostInput), s.inputs = .reset :: rest →
    ∃ t, step s = .next t ∧
      t.mode = .unsel ∧ t.base = 0 ∧ t.halt = false ∧ t.fcode = 0 ∧ t.fcmd = 0 ∧ t.seq = 0 ∧
      t.res0 = none ∧ t.res1 = none ∧ t.stat = none ∧ t.inputs = rest ∧
      t.trace = s.trace ∧ t.answers = s.answers ∧ t.reads = s.reads ∧ t.config = s.config

/-- From 60_exceptions R254: while halted every command is refused, whatever its word. That the refused
command takes its input (log 1) and that its words are not sampled (log 5) is the model's. -/
def Obligations.HaltedBlockRefusesEveryCommand : Prop :=
  ∀ (s : State) (c : Command) (rest : List HostInput),
    s.inputs = .command c :: rest → s.halt = true →
    step s = .next { s with inputs := rest, stat := some (.fatal s.fcode), res0 := none,
                            res1 := none }

/-- From 60_exceptions R255 and 30_encoding R96: a word that is the encoding of no well-formed command is
the fatal `IllegalCommand`, in every mode and whatever the operand ports hold. That its input is taken
(log 1) and that its words stay in the sampled ports (log 5) is the model's. -/
def Obligations.IllegalWordIsFatal : Prop :=
  ∀ (s : State) (c : Command) (rest : List HostInput),
    s.inputs = .command c :: rest → s.halt = false →
    (∀ i : Instr, i.wellFormed = true → encode i ≠ c.cmd) →
    step s = .next (fatalState
      { s with inputs := rest, cmd := c.cmd, opa := c.opa, opb := c.opb } 0x01)

/-- A step runs the decoded command: the ports are sampled, and the step is the command's meaning there. -/
def Obligations.StepRunsDecodedCommand : Prop :=
  ∀ (s : State) (c : Command) (rest : List HostInput) (i : Instr),
    s.inputs = .command c :: rest → s.halt = false → decode c.cmd = .ok i →
    i.wellFormed = true →
    step s = exec i { s with inputs := rest, cmd := c.cmd, opa := c.opa, opb := c.opb }

/-- A step answers a next state exactly when the host presents something: no word, operand, mode or
parameter stops the machine (the stop on an empty list is the model's choice, log 2). -/
def Obligations.StepStopsOnlyWithoutInput : Prop :=
  ∀ s : State, (∃ s', step s = .next s') ↔ s.inputs ≠ []

/-- 10_state R26: `seq` advances exactly when a command completes `OK`. That each presentation takes
one input from the host's list is the model's choice (log 1). -/
def Obligations.SeqCountsCommandsCompletedOk : Prop :=
  ∀ (s s' : State) (c : Command) (rest : List HostInput),
    s.inputs = .command c :: rest → step s = .next s' →
    s'.inputs = rest ∧ s'.seq = if s'.stat = some .ok then s.seq + 1 else s.seq

/-- 60_exceptions R258: a step leaves the halted state only when the host applies reset, and after it
no mode is selected. -/
def Obligations.OnlyResetLeavesHalt : Prop :=
  ∀ s s' : State, s.halt = true → step s = .next s' → s'.halt = false →
    (∃ rest, s.inputs = .reset :: rest) ∧ s'.mode = .unsel

/-- 60_exceptions R253: between two resets `FCODE` and `FCMD` change only in the step that halts the
block, and a live block holds zero in both. -/
def Obligations.FatalIsRecordedOnce : Prop :=
  ∀ s s' : State, s.Inv → step s = .next s' → (∀ rest, s.inputs ≠ .reset :: rest) →
    ((s'.fcode ≠ s.fcode ∨ s'.fcmd ≠ s.fcmd) → s.halt = false ∧ s'.halt = true) ∧
    (s'.halt = false → s'.fcode = 0 ∧ s'.fcmd = 0)

/-- 10_state R21: `MODE` and `BASE` are written by `MODE.SELECT` and by reset, by nothing else. -/
def Obligations.OnlyModeSelectAndResetWriteMode : Prop :=
  ∀ s s' : State, step s = .next s' → (s'.mode ≠ s.mode ∨ s'.base ≠ s.base) →
    (∃ rest, s.inputs = .reset :: rest) ∨
    (∃ c rest m, s.inputs = .command c :: rest ∧ s.halt = false ∧ s.mode = .unsel ∧
      decode c.cmd = .ok (.modeSelect m))

/-- 70_reset_and_hazards R296: no step changes a parameter. -/
def Obligations.ParametersAreConstant : Prop :=
  ∀ s s' : State, step s = .next s' → s'.config = s.config

/-- 20_memory R64: a step never drops or reorders what was emitted before, and emits at most two
transactions (10_state R24). -/
def Obligations.TraceOnlyGrows : Prop :=
  ∀ s s' : State, step s = .next s' → ∃ ts, ts.length ≤ 2 ∧ s'.trace = s.trace ++ ts

/-- 41_register_value_types R134, 70_reset_and_hazards R294: after reset, the command the host derives
from IA32_APIC_BASE selects the mode that word names, with the mapped pointer as base. -/
def Obligations.BootCommandSelectsMode : Prop :=
  ∀ (msr ptr : DWord) (c : Command), hostBootCommand msr ptr = some c →
    ptr.extractLsb' 0 12 = 0 →
    ∃ t, step { State.reset with inputs := [.command c] } = .next t ∧ t.stat = some .ok ∧
      msr.getLsbD 11 = true ∧
      (msr.getLsbD 10 = true → t.mode = .x2apic ∧ t.base = 0) ∧
      (msr.getLsbD 10 = false → t.mode = .xapic ∧ t.base = ptr)

/-! ### Encoding -/

/-- Decoding the word of a well-formed command gives the command back, for every command and operand. -/
def Obligations.DecodeOfEncodeIsIdentity : Prop :=
  ∀ i : Instr, i.wellFormed = true → decode (encode i) = .ok i

/-- A word the decoder accepts is the word of the command it gives, which is well formed: no bit of a
command word goes unread (30_encoding R88, R96). -/
def Obligations.DecodeAcceptsOnlyEncodings : Prop :=
  ∀ (w : Word) (i : Instr), decode w = .ok i → i.wellFormed = true ∧ encode i = w

/-- 30_encoding R96: a word whose opcode is none of the 35 is rejected, whatever its other bits. -/
def Obligations.UnassignedOpcodesAreRejected : Prop :=
  ∀ w : Word,
    w.extractLsb' 0 8 ∉ ([0x01, 0x10, 0x11, 0x12, 0x14, 0x15, 0x16, 0x18, 0x19, 0x1C, 0x1D, 0x1E,
      0x20, 0x21, 0x22, 0x23, 0x24, 0x25, 0x26, 0x27, 0x28, 0x30, 0x31, 0x32, 0x34, 0x35, 0x36,
      0x37, 0x38, 0x39, 0x40, 0x41, 0x42, 0x43, 0x44] : List Byte) →
    decode w = .error .undefinedOpcode

/-- 30_encoding R100: the twelve example words of the spec. -/
def Obligations.ExampleWordsDecode : Prop :=
  decode 0x00010001#32 = .ok (.modeSelect .x2apic) ∧
  decode 0x00000001#32 = .ok (.modeSelect .xapic) ∧
  decode 0x00000011#32 = .ok .verMaxlvt ∧
  decode 0x00050015#32 = .ok (.esrTest 5) ∧
  decode 0x00040018#32 = .ok (.tdcEnc 4) ∧
  decode 0x00200021#32 = .ok (.lvtSetvec .timer 0x20) ∧
  decode 0x00040626#32 = .ok (.lvtSetdm .thermalSensor .nonMaskable) ∧
  decode 0x00000B40#32 = .ok (.regRd .lvtTimer) ∧
  decode 0x00001341#32 = .ok (.regWr .tdc) ∧
  decode 0x00080032#32 = .ok (.icrSipi 0x08) ∧
  decode 0x00000044#32 = .ok .eoi ∧
  decode 0x02002A30#32 = .ok (.icrBuild
    { vp := false, dm := .init, dstm := .physical, trig := .level, asrt := .deassert, vec := 0,
      dkind := .allIncludingSelf })

/-! ### The bit-field primitives -/

/-- 40_bitfield_primitives R114: read after write, frame, idempotence, last write wins, commutation of
disjoint fields, restore; for every width, field and fitting value. -/
def Obligations.BitFieldLaws : Prop :=
  ∀ (W : Nat) (w : BitVec W) (hi lo : Nat) (v : BitVec W), lo ≤ hi → hi < W →
    v.toNat < 2 ^ (hi - lo + 1) →
    ∃ w', setBits w hi lo v = .ok w' ∧
      getBits w' hi lo = v ∧
      (∀ j, j < lo ∨ hi < j → w'.getLsbD j = w.getLsbD j) ∧
      setBits w' hi lo v = .ok w' ∧
      (∀ u w1, setBits w hi lo u = .ok w1 → setBits w1 hi lo v = .ok w') ∧
      (∀ hi2 lo2 u w1, lo2 ≤ hi2 → hi2 < W → (hi2 < lo ∨ hi < lo2) → setBits w hi2 lo2 u = .ok w1 →
        ∃ w2, setBits w1 hi lo v = .ok w2 ∧ setBits w' hi2 lo2 u = .ok w2) ∧
      setBits w hi lo (getBits w hi lo) = .ok w

/-- 40_bitfield_primitives R110 to R113: each primitive in terms of the slice, and the fatal of a value
wider than its field. -/
def Obligations.BitFieldPrimitivesReadSlices : Prop :=
  ∀ (W : Nat) (w : BitVec W) (hi lo : Nat), lo ≤ hi → hi < W →
    getBits w hi lo = (w.extractLsb' lo (hi - lo + 1)).setWidth W ∧
    (∀ v : BitVec W, 2 ^ (hi - lo + 1) ≤ v.toNat →
      setBits w hi lo v = .error .bitfieldOverflow) ∧
    getBit w hi = (if w.getLsbD hi then 1#W else 0#W) ∧
    (∀ b : Bool, setBits w hi hi (if b then 1#W else 0#W) = .ok (setBit w hi b))

/-! ### Register value types -/

/-- 41_register_value_types R120 to R122: the three fields of a version word, `OPB` ignored. -/
def Obligations.VersionFieldsRead : Prop :=
  decode 0x00000010#32 = .ok .verVersion ∧ decode 0x00000011#32 = .ok .verMaxlvt ∧
  decode 0x00000012#32 = .ok .verEoisup ∧
  ∀ s : State,
    exec .verVersion s = .next (okState s ((s.opa.extractLsb' 0 8).setWidth 32) 0) ∧
    exec .verMaxlvt s = .next (okState s ((s.opa.extractLsb' 16 8).setWidth 32) 0) ∧
    exec .verEoisup s = .next (okState s (if s.opa.getLsbD 24 then 1 else 0) 0)

/-- 41_register_value_types R124, R125: the flag set of an error-status word and the test of one flag;
an index above 7 is an illegal word. -/
def Obligations.ErrorStatusFlagsRead : Prop :=
  decode 0x00000014#32 = .ok .esrDec ∧
  (∀ i : Fin 8, decode (encodeI 0x15 (BitVec.ofNat 8 i.val)) = .ok (.esrTest i)) ∧
  (∀ imm : Byte, 7 < imm.toNat → ∃ e, decode (encodeI 0x15 imm) = .error e) ∧
  ∀ s : State,
    exec .esrDec s = .next (okState s (s.opa &&& 0x000000FF) 0) ∧
    ∀ i : Fin 8,
      exec (.esrTest i) s = .next (okState s (if s.opa.getLsbD i.val then 1 else 0) 0)

/-- 41_register_value_types R126: the union of two flag sets, reserved bits dropped. -/
def Obligations.ErrorStatusUnion : Prop :=
  decode 0x00000016#32 = .ok .esrUnion ∧
  ∀ s : State, exec .esrUnion s = .next (okState s ((s.opa ||| s.opb) &&& 0x000000FF) 0)

/-- 41_register_value_types R128: the table of divide patterns; an exponent above 7 is an illegal word. -/
def Obligations.DivideConfigurationEncoded : Prop :=
  (∀ e : Fin 8, decode (encodeI 0x18 (BitVec.ofNat 8 e.val)) = .ok (.tdcEnc e)) ∧
  (∀ imm : Byte, 7 < imm.toNat → ∃ err, decode (encodeI 0x18 imm) = .error err) ∧
  ∀ s : State,
    exec (.tdcEnc 0) s = .next (okState s 0b1011 0) ∧
    exec (.tdcEnc 1) s = .next (okState s 0b0000 0) ∧
    exec (.tdcEnc 2) s = .next (okState s 0b0001 0) ∧
    exec (.tdcEnc 3) s = .next (okState s 0b0010 0) ∧
    exec (.tdcEnc 4) s = .next (okState s 0b0011 0) ∧
    exec (.tdcEnc 5) s = .next (okState s 0b1000 0) ∧
    exec (.tdcEnc 6) s = .next (okState s 0b1001 0) ∧
    exec (.tdcEnc 7) s = .next (okState s 0b1010 0)

/-- 41_register_value_types R129: every word decodes; its bits 3, 1 and 0 name the exponent `e`, which is
`RES0`, and `RES1` is `2^e`. -/
def Obligations.DivideConfigurationDecoded : Prop :=
  decode 0x00000019#32 = .ok .tdcDec ∧
  ∀ s : State, ∃ e : Fin 8,
    ([0b1011, 0b0000, 0b0001, 0b0010, 0b0011, 0b1000, 0b1001, 0b1010] : List Word)[e.val]? =
      some (s.opa &&& 0x0000000B) ∧
    exec .tdcDec s = .next (okState s (BitVec.ofNat 32 e.val) (BitVec.ofNat 32 (2 ^ e.val)))

/-- 41_register_value_types R130: both directions of the round trip of the divide configuration. -/
def Obligations.DivideConfigurationRoundTrips : Prop :=
  (∀ (s : State) (e : Fin 8) (w : Word),
    ∃ x, resultOn s (.tdcEnc e) w = some x ∧ resultOn s .tdcDec x = some (BitVec.ofNat 32 e.val)) ∧
  (∀ (s : State) (w : Word), ∃ e : Fin 8,
    resultOn s .tdcDec w = some (BitVec.ofNat 32 e.val) ∧
    resultOn s (.tdcEnc e) w = some (w &&& 0x0000000B))

/-- 41_register_value_types R131 to R133: the fields of a copy of IA32_APIC_BASE. -/
def Obligations.ApicBaseFieldsRead : Prop :=
  decode 0x0000001C#32 = .ok .abaseEn ∧ decode 0x0000001D#32 = .ok .abaseX2 ∧
  decode 0x0000001E#32 = .ok .abaseAddr ∧
  ∀ s : State,
    exec .abaseEn s = .next (okState s (if s.opa.getLsbD 11 then 1 else 0) 0) ∧
    exec .abaseX2 s = .next (okState s (if s.opa.getLsbD 10 then 1 else 0) 0) ∧
    exec .abaseAddr s = .next (okState s (s.opa &&& 0xFFFFF000) (s.opb &&& 0x0000000F))

/-! ### Local vector table entries -/

/-- 42_local_vector_table R152: the vector of an entry of any kind; a reserved vector is fatal under
`P_DEBUG_CHECKS` only. -/
def Obligations.LvtVectorRead : Prop :=
  ∀ (k : LvtKind) (s : State),
    decode (encodeS 0x20 k.code) = .ok (.lvtGetvec k) ∧
    ((s.config.debugChecks = false ∨ 15 < (s.opa.extractLsb' 0 8).toNat) →
      exec (.lvtGetvec k) s = .next (okState s ((s.opa.extractLsb' 0 8).setWidth 32) 0)) ∧
    ((s.config.debugChecks = true ∧ (s.opa.extractLsb' 0 8).toNat ≤ 15) →
      exec (.lvtGetvec k) s = .next (fatalState s 0x11))

/-- 42_local_vector_table R153: the vector is replaced, every other bit passes through; 0 to 15 are fatal
for every kind. -/
def Obligations.LvtVectorReplaced : Prop :=
  ∀ (k : LvtKind) (v : Byte) (s : State),
    decode (encodeSI 0x21 k.code v) = .ok (.lvtSetvec k v) ∧
    (15 < v.toNat →
      exec (.lvtSetvec k v) s =
        .next (okState s ((s.opa &&& 0xFFFFFF00) ||| v.setWidth 32) 0)) ∧
    (v.toNat ≤ 15 → exec (.lvtSetvec k v) s = .next (fatalState s 0x10))

/-- 42_local_vector_table R154, R155: delivery status and mask of an entry of any kind. -/
def Obligations.LvtStatusAndMaskRead : Prop :=
  ∀ (k : LvtKind) (s : State),
    decode (encodeS 0x22 k.code) = .ok (.lvtGetds k) ∧
    decode (encodeS 0x23 k.code) = .ok (.lvtGetmask k) ∧
    exec (.lvtGetds k) s = .next (okState s (if s.opa.getLsbD 12 then 1 else 0) 0) ∧
    exec (.lvtGetmask k) s = .next (okState s (if s.opa.getLsbD 16 then 1 else 0) 0)

/-- 42_local_vector_table R156: only bit 16 changes; an immediate above 1 is an illegal word. -/
def Obligations.LvtMaskReplaced : Prop :=
  ∀ (k : LvtKind) (s : State),
    decode (encodeSI 0x24 k.code 0) = .ok (.lvtSetmask k false) ∧
    decode (encodeSI 0x24 k.code 1) = .ok (.lvtSetmask k true) ∧
    (∀ imm : Byte, 1 < imm.toNat → ∃ e, decode (encodeSI 0x24 k.code imm) = .error e) ∧
    exec (.lvtSetmask k true) s = .next (okState s (s.opa ||| 0x00010000) 0) ∧
    exec (.lvtSetmask k false) s = .next (okState s (s.opa &&& 0xFFFEFFFF) 0)

/-- 42_local_vector_table R151, R158: the delivery mode of the three Deliverable kinds; the kind is
checked before the code. -/
def Obligations.LvtDeliveryModeRead : Prop :=
  ∀ (k : LvtKind) (s : State),
    decode (encodeS 0x25 k.code) = .ok (.lvtGetdm k) ∧
    (k ∈ [LvtKind.cmci, .performanceMonitors, .thermalSensor] → s.opa.extractLsb' 8 3 ≠ 0b011#3 →
      exec (.lvtGetdm k) s = .next (okState s ((s.opa.extractLsb' 8 3).setWidth 32) 0)) ∧
    (k ∈ [LvtKind.cmci, .performanceMonitors, .thermalSensor] → s.opa.extractLsb' 8 3 = 0b011#3 →
      exec (.lvtGetdm k) s = .next (fatalState s 0x03)) ∧
    (k ∈ [LvtKind.timer, .lint0, .lint1, .error] →
      exec (.lvtGetdm k) s = .next (fatalState s 0x02))

/-- 42_local_vector_table R151, R159: only bits 10:8 change, whatever they held; codes 3 and above 7 are
illegal words. -/
def Obligations.LvtDeliveryModeReplaced : Prop :=
  ∀ (k : LvtKind) (d : DeliveryMode) (s : State),
    decode (encodeSI 0x26 k.code (d.code.setWidth 8)) = .ok (.lvtSetdm k d) ∧
    (∀ imm : Byte, imm = 3 ∨ 7 < imm.toNat → ∃ e, decode (encodeSI 0x26 k.code imm) = .error e) ∧
    (k ∈ [LvtKind.cmci, .performanceMonitors, .thermalSensor] →
      exec (.lvtSetdm k d) s =
        .next (okState s ((s.opa &&& 0xFFFFF8FF) ||| (d.code.setWidth 32 <<< 8)) 0)) ∧
    (k ∈ [LvtKind.timer, .lint0, .lint1, .error] →
      exec (.lvtSetdm k d) s = .next (fatalState s 0x02))

/-- 42_local_vector_table R151, R160: the timer mode of the Timer kind; the kind is checked before the
code, the capability never. -/
def Obligations.LvtTimerModeRead : Prop :=
  ∀ (k : LvtKind) (s : State),
    decode (encodeS 0x27 k.code) = .ok (.lvtGettm k) ∧
    (k = .timer → s.opa.extractLsb' 17 2 ≠ 0b11#2 →
      exec (.lvtGettm k) s = .next (okState s ((s.opa.extractLsb' 17 2).setWidth 32) 0)) ∧
    (k = .timer → s.opa.extractLsb' 17 2 = 0b11#2 →
      exec (.lvtGettm k) s = .next (fatalState s 0x03)) ∧
    (k ≠ .timer → exec (.lvtGettm k) s = .next (fatalState s 0x02))

/-- 42_local_vector_table R151, R161: only bits 18:17 change; TSC-Deadline needs the capability, the kind
is checked first; codes above 2 are illegal words. -/
def Obligations.LvtTimerModeReplaced : Prop :=
  ∀ (k : LvtKind) (t : TimerMode) (s : State),
    decode (encodeSI 0x28 k.code (t.code.setWidth 8)) = .ok (.lvtSettm k t) ∧
    (∀ imm : Byte, 2 < imm.toNat → ∃ e, decode (encodeSI 0x28 k.code imm) = .error e) ∧
    (k = .timer → (t = .tscDeadline → s.config.capTscDeadline = true) →
      exec (.lvtSettm k t) s =
        .next (okState s ((s.opa &&& 0xFFF9FFFF) ||| (t.code.setWidth 32 <<< 17)) 0)) ∧
    (k = .timer → t = .tscDeadline → s.config.capTscDeadline = false →
      exec (.lvtSettm k t) s = .next (fatalState s 0x12)) ∧
    (k ≠ .timer → exec (.lvtSettm k t) s = .next (fatalState s 0x02))

/-- 42_local_vector_table R162: a getter applied to the word a setter of its field gave returns the value
set, for every word and every kind that passes the capability check. -/
def Obligations.LvtReadAfterWrite : Prop :=
  ∀ (s : State) (k : LvtKind) (w : Word),
    (∀ v : Byte, 15 < v.toNat → ∃ x, resultOn s (.lvtSetvec k v) w = some x ∧
      resultOn s (.lvtGetvec k) x = some (v.setWidth 32)) ∧
    (∀ m : Bool, ∃ x, resultOn s (.lvtSetmask k m) w = some x ∧
      resultOn s (.lvtGetmask k) x = some (if m then 1 else 0)) ∧
    (∀ d : DeliveryMode, k ∈ [LvtKind.cmci, .performanceMonitors, .thermalSensor] →
      ∃ x, resultOn s (.lvtSetdm k d) w = some x ∧
        resultOn s (.lvtGetdm k) x = some (d.code.setWidth 32)) ∧
    (∀ t : TimerMode, k = .timer → (t = .tscDeadline → s.config.capTscDeadline = true) →
      ∃ x, resultOn s (.lvtSettm k t) w = some x ∧
        resultOn s (.lvtGettm k) x = some (t.code.setWidth 32))

/-- 42_local_vector_table R162: setters of different fields commute, for every word and kind, also where
one of them is fatal. -/
def Obligations.LvtSettersCommute : Prop :=
  ∀ (s : State) (k : LvtKind) (v : Byte) (m : Bool) (d : DeliveryMode) (t : TimerMode) (w : Word)
    (i j : Instr),
    (i, j) ∈ [(Instr.lvtSetvec k v, Instr.lvtSetmask k m), (.lvtSetvec k v, .lvtSetdm k d),
      (.lvtSetvec k v, .lvtSettm k t), (.lvtSetmask k m, .lvtSetdm k d),
      (.lvtSetmask k m, .lvtSettm k t), (.lvtSetdm k d, .lvtSettm k t)] →
    (resultOn s i w).bind (resultOn s j) = (resultOn s j w).bind (resultOn s i)

/-- 42_local_vector_table R162: a setter of one field leaves the answer of every getter of another field
as it was, the delivery status among them. -/
def Obligations.LvtSettersKeepOtherFields : Prop :=
  ∀ (s : State) (k : LvtKind) (v : Byte) (m : Bool) (d : DeliveryMode) (t : TimerMode) (w x : Word)
    (i j : Instr),
    (i, j) ∈ [(Instr.lvtSetvec k v, Instr.lvtGetmask k), (.lvtSetvec k v, .lvtGetdm k),
      (.lvtSetvec k v, .lvtGettm k), (.lvtSetvec k v, .lvtGetds k),
      (.lvtSetmask k m, .lvtGetvec k), (.lvtSetmask k m, .lvtGetdm k),
      (.lvtSetmask k m, .lvtGettm k), (.lvtSetmask k m, .lvtGetds k),
      (.lvtSetdm k d, .lvtGetvec k), (.lvtSetdm k d, .lvtGetmask k),
      (.lvtSetdm k d, .lvtGetds k), (.lvtSettm k t, .lvtGetvec k),
      (.lvtSettm k t, .lvtGetmask k), (.lvtSettm k t, .lvtGetds k)] →
    resultOn s i w = some x → resultOn s j x = resultOn s j w

/-! ### Interrupt commands -/

/-- 43_interrupt_command R181 to R184: a well-formed description that keeps the four rules is encoded
field by field; one that breaks rules reports the first broken rule in the order of the spec. -/
def Obligations.IcrBuildValidatesAndEncodes : Prop :=
  ∀ (d : IcrDescription) (s : State), d.wellFormed = true →
    ((d.vp = true ↔ d.dm ≠ .systemManagement ∧ d.dm ≠ .init) →
      (d.asrt = .deassert → d.dm = .init ∧ d.trig = .level ∧ d.dkind = .allIncludingSelf) →
      exec (.icrBuild d) s = .next (okState s
        (0#12 ++ d.dkind.code ++ 0#2 ++ BitVec.ofBool d.trig.bit ++ BitVec.ofBool d.asrt.bit ++ 0#2
          ++ BitVec.ofBool d.dstm.bit ++ d.dm.code ++ d.vec)
        (if d.dkind = .explicitId then s.opa else 0))) ∧
    (d.asrt = .deassert → d.dm ≠ .init → exec (.icrBuild d) s = .next (fatalState s 0x20)) ∧
    (d.asrt = .deassert → d.dm = .init → d.trig = .edge →
      exec (.icrBuild d) s = .next (fatalState s 0x21)) ∧
    ((d.asrt = .deassert → d.dm = .init ∧ d.trig = .level) →
      d.vp = true → (d.dm = .systemManagement ∨ d.dm = .init) →
      exec (.icrBuild d) s = .next (fatalState s 0x22)) ∧
    ((d.asrt = .deassert → d.dm = .init ∧ d.trig = .level) →
      d.vp = false → d.dm ≠ .systemManagement → d.dm ≠ .init →
      exec (.icrBuild d) s = .next (fatalState s 0x23)) ∧
    (d.asrt = .deassert → d.dm = .init → d.trig = .level → d.vp = false →
      d.dkind ≠ .allIncludingSelf → exec (.icrBuild d) s = .next (fatalState s 0x24))

/-- 43_interrupt_command R186 to R188: the two named constructors, and the builder commands they equal. -/
def Obligations.IcrNamedConstructors : Prop :=
  decode 0x00000031#32 = .ok .icrInit ∧
  (∀ v : Byte, decode (encodeI 0x32 v) = .ok (.icrSipi v)) ∧
  (∀ s : State, exec .icrInit s = .next (okState s 0x0000C500 s.opa)) ∧
  (∀ (v : Byte) (s : State),
    exec (.icrSipi v) s = .next (okState s (0x00004600 ||| v.setWidth 32) s.opa)) ∧
  (∃ i, decode 0x00006A30#32 = .ok i ∧ ∀ s : State, exec i s = exec .icrInit s) ∧
  (∀ v : Byte, ∃ i, decode (0x00004D30#32 ||| (v.setWidth 32 <<< 16)) = .ok i ∧
    ∀ s : State, exec i s = exec (.icrSipi v) s)

/-- 43_interrupt_command R189, R190: the two decoders that read the delivery mode. -/
def Obligations.IcrVectorAndDeliveryModeRead : Prop :=
  decode 0x00000034#32 = .ok .icrGetvec ∧ decode 0x00000035#32 = .ok .icrGetdm ∧
  ∀ s : State,
    (s.opa.extractLsb' 8 3 = 0b011#3 →
      exec .icrGetvec s = .next (fatalState s 0x03) ∧
      exec .icrGetdm s = .next (fatalState s 0x03)) ∧
    (s.opa.extractLsb' 8 3 ≠ 0b011#3 →
      exec .icrGetdm s = .next (okState s ((s.opa.extractLsb' 8 3).setWidth 32) 0)) ∧
    (s.opa.extractLsb' 8 3 = 0b010#3 ∨ s.opa.extractLsb' 8 3 = 0b101#3 →
      exec .icrGetvec s = .next (okState s 0 0)) ∧
    (s.opa.extractLsb' 8 3 ≠ 0b011#3 → s.opa.extractLsb' 8 3 ≠ 0b010#3 →
      s.opa.extractLsb' 8 3 ≠ 0b101#3 →
      exec .icrGetvec s = .next (okState s ((s.opa.extractLsb' 0 8).setWidth 32) 1))

/-- 43_interrupt_command R191 to R194: the four decoders that are total. -/
def Obligations.IcrModesAndDestinationRead : Prop :=
  decode 0x00000036#32 = .ok .icrGetdstm ∧ decode 0x00000037#32 = .ok .icrGettrig ∧
  decode 0x00000038#32 = .ok .icrGetasrt ∧ decode 0x00000039#32 = .ok .icrGetdest ∧
  ∀ s : State,
    exec .icrGetdstm s = .next (okState s (if s.opa.getLsbD 11 then 1 else 0) 0) ∧
    exec .icrGettrig s = .next (okState s (if s.opa.getLsbD 15 then 1 else 0) 0) ∧
    exec .icrGetasrt s = .next (okState s (if s.opa.getLsbD 14 then 1 else 0) 0) ∧
    exec .icrGetdest s = .next (okState s ((s.opa.extractLsb' 18 2).setWidth 32)
      (if s.opa.extractLsb' 18 2 = 0#2 then s.opb else 0))

/-- 43_interrupt_command R195: for every description the builder accepts, the decoders give every field
back and none raises. -/
def Obligations.IcrRoundTrips : Prop :=
  ∀ (d : IcrDescription) (s t : State) (low high : Word), d.wellFormed = true →
    exec (.icrBuild d) s = .next t → t.res0 = some low → t.res1 = some high →
    let u := { s with opa := low, opb := high }
    exec .icrGetvec u = .next (okState u (d.vec.setWidth 32) (if d.vp then 1 else 0)) ∧
    exec .icrGetdm u = .next (okState u (d.dm.code.setWidth 32) 0) ∧
    exec .icrGetdstm u = .next (okState u (if d.dstm = .logical then 1 else 0) 0) ∧
    exec .icrGettrig u = .next (okState u (if d.trig = .level then 1 else 0) 0) ∧
    exec .icrGetasrt u = .next (okState u (if d.asrt = .assert then 1 else 0) 0) ∧
    exec .icrGetdest u = .next (okState u (d.dkind.code.setWidth 32)
      (if d.dkind = .explicitId then s.opa else 0))

/-! ### Mode dispatch -/

/-- 44_mode_dispatch R210: the mode is selected once; an xAPIC base is page aligned. The clauses that read
the pointer are for the 64 bits R210 gives it; `BaseHasConfiguredWidth` is for every width. -/
def Obligations.ModeSelectedOnce : Prop :=
  decode 0x00000001#32 = .ok (.modeSelect .xapic) ∧
  decode 0x00010001#32 = .ok (.modeSelect .x2apic) ∧
  (∀ imm : Byte, 1 < imm.toNat → ∃ e, decode (encodeI 0x01 imm) = .error e) ∧
  ∀ s : State,
    (s.mode = .unsel → s.config.baseWidth = 64 → s.opa.extractLsb' 0 12 = 0#12 →
      exec (.modeSelect .xapic) s =
        .next (okState { s with mode := .xapic, base := s.opb ++ s.opa } 0 0)) ∧
    (s.mode = .unsel → s.config.baseWidth = 64 → s.opa.extractLsb' 0 12 ≠ 0#12 →
      exec (.modeSelect .xapic) s = .next (fatalState s 0x32)) ∧
    (s.mode = .unsel →
      exec (.modeSelect .x2apic) s = .next (okState { s with mode := .x2apic } 0 0)) ∧
    (s.mode ≠ .unsel → ∀ m, exec (.modeSelect m) s = .next (fatalState s 0x31))

/-- From 00_scope R7 and 44_mode_dispatch R210: the pointer of an xAPIC selection has the configured width,
and with a width below 64 it is the low bits of the two operand words, which is the model's reading
(log 23). -/
def Obligations.BaseHasConfiguredWidth : Prop :=
  ∀ s : State, s.mode = .unsel →
    let b : DWord := ((s.opb ++ s.opa).setWidth s.config.baseWidth.val).setWidth 64
    (b.extractLsb' 0 12 = 0#12 →
      exec (.modeSelect .xapic) s =
        .next (okState { s with mode := .xapic, base := b } 0 0)) ∧
    (b.extractLsb' 0 12 ≠ 0#12 → exec (.modeSelect .xapic) s = .next (fatalState s 0x32))

/-- 44_mode_dispatch R211: the other dispatch commands need a selected mode, before any check of the
register they name. -/
def Obligations.DispatchNeedsSelectedMode : Prop :=
  ∀ (s : State) (r : LogicalReg), s.mode = .unsel →
    exec (.regRd r) s = .next (fatalState s 0x30) ∧
    exec (.regWr r) s = .next (fatalState s 0x30) ∧
    exec .esrClr s = .next (fatalState s 0x30) ∧
    exec .icrSend s = .next (fatalState s 0x30) ∧
    exec .eoi s = .next (fatalState s 0x30)

/-- 44_mode_dispatch R212 to R214: one read of one readable register, for every answer the downstream
APIC may give, listed or free (log 8); the identifier has 8 bits in xAPIC mode. -/
def Obligations.RegisterReadOnce : Prop :=
  ∀ (s : State) (r : LogicalReg) (rr : RoutedReg) (a : DWord), r.routed = some rr →
    r ∈ [LogicalReg.id, .version, .esr, .lvtCmci, .lvtTimer, .lvtThermal, .lvtPerf, .lvtLint0,
      .lvtLint1, .lvtError, .tic, .tcc, .tdc] →
    answersNext s a →
    decode (encodeS 0x40 r.code) = .ok (.regRd r) ∧
    (s.mode = .x2apic →
      exec (.regRd r) s = .next (okState (readDone s (.msrRead (s.config.msr rr)))
        (a.extractLsb' 0 32) 0)) ∧
    (s.mode = .xapic → r ≠ .id →
      exec (.regRd r) s = .next (okState
        (readDone s (.memRead (s.base + (s.config.off rr).setWidth 64))) (a.extractLsb' 0 32) 0)) ∧
    (s.mode = .xapic → r = .id →
      exec (.regRd r) s = .next (okState
        (readDone s (.memRead (s.base + (s.config.off rr).setWidth 64)))
        ((a.extractLsb' s.config.xapicIdLsb.val 8).setWidth 32) 0))

/-- 44_mode_dispatch R216, R217: placeholders and missing access kinds are fatal and emit nothing. -/
def Obligations.RegisterAccessChecked : Prop :=
  ∀ (s : State) (r : LogicalReg), s.mode ≠ .unsel →
    (r ∈ [LogicalReg.tpr, .apr, .ppr, .rrd, .ldr] →
      exec (.regRd r) s = .next (fatalState s 0x33) ∧
      exec (.regWr r) s = .next (fatalState s 0x33)) ∧
    (r ∈ [LogicalReg.eoi, .icr] → exec (.regRd r) s = .next (fatalState s 0x34)) ∧
    (r ∈ [LogicalReg.id, .version, .eoi, .esr, .icr, .tcc] →
      exec (.regWr r) s = .next (fatalState s 0x34))

/-- 44_mode_dispatch R218, R219: one write of one writable register, the word exactly as given, and a
fence after a write of the timer entry that selects TSC-Deadline, in both modes. -/
def Obligations.RegisterWrittenOnce : Prop :=
  ∀ (s : State) (r : LogicalReg) (rr : RoutedReg), r.routed = some rr →
    r ∈ [LogicalReg.lvtCmci, .lvtTimer, .lvtThermal, .lvtPerf, .lvtLint0, .lvtLint1, .lvtError, .tic,
      .tdc] →
    decode (encodeS 0x41 r.code) = .ok (.regWr r) ∧
    (s.mode = .x2apic →
      exec (.regWr r) s = .next (okState (emitted s
        (.msrWrite (s.config.msr rr) (s.opa.setWidth 64) ::
          if r = .lvtTimer ∧ s.opa.extractLsb' 17 2 = 0b10#2 then [.fence] else [])) 0 0)) ∧
    (s.mode = .xapic →
      exec (.regWr r) s = .next (okState (emitted s
        (.memWrite (s.base + (s.config.off rr).setWidth 64) s.opa ::
          if r = .lvtTimer ∧ s.opa.extractLsb' 17 2 = 0b10#2 then [.fence] else [])) 0 0))

/-- 44_mode_dispatch R220, R224: one write of zero. -/
def Obligations.ClearAndEoiWriteZero : Prop :=
  decode 0x00000042#32 = .ok .esrClr ∧ decode 0x00000044#32 = .ok .eoi ∧
  ∀ s : State,
    (s.mode = .x2apic →
      exec .esrClr s = .next (okState (emitted s [.msrWrite (s.config.msr .esr) 0]) 0 0) ∧
      exec .eoi s = .next (okState (emitted s [.msrWrite (s.config.msr .eoi) 0]) 0 0)) ∧
    (s.mode = .xapic →
      exec .esrClr s = .next (okState
        (emitted s [.memWrite (s.base + (s.config.off .esr).setWidth 64) 0]) 0 0) ∧
      exec .eoi s = .next (okState
        (emitted s [.memWrite (s.base + (s.config.off .eoi).setWidth 64) 0]) 0 0)) ∧
    (s.mode = .unsel →
      exec .esrClr s = .next (fatalState s 0x30) ∧ exec .eoi s = .next (fatalState s 0x30))

/-- 44_mode_dispatch R221, R222: the send in both modes and both x2APIC forms, the high half before the
low half, and the two checks that precede every write. The page offsets are the map's (log 11). -/
def Obligations.InterruptCommandSent : Prop :=
  decode 0x00000043#32 = .ok .icrSend ∧
  ∀ s : State,
    (s.mode = .unsel → exec .icrSend s = .next (fatalState s 0x30)) ∧
    (s.mode = .x2apic → s.opa.extractLsb' 8 3 = 0b001#3 →
      exec .icrSend s = .next (fatalState s 0x35)) ∧
    (s.mode = .x2apic → s.opa.extractLsb' 8 3 ≠ 0b001#3 → s.config.x2IcrForm = .split →
      exec .icrSend s = .next (okState (emitted s
        [.msrWrite s.config.x2IcrHighMsr (s.opb.setWidth 64),
         .msrWrite 0x830 (s.opa.setWidth 64)]) 0 0)) ∧
    (s.mode = .x2apic → s.opa.extractLsb' 8 3 ≠ 0b001#3 → s.config.x2IcrForm = .merged →
      exec .icrSend s = .next (okState (emitted s [.msrWrite 0x830 (s.opb ++ s.opa)]) 0 0)) ∧
    (s.mode = .xapic → 0xFF < s.opb.toNat → exec .icrSend s = .next (fatalState s 0x36)) ∧
    (s.mode = .xapic → s.opb.toNat ≤ 0xFF →
      exec .icrSend s = .next (okState (emitted s
        [.memWrite (s.base + s.config.regMap.icrHighOff.setWidth 64)
           (s.opb <<< s.config.xapicIdLsb.val),
         .memWrite (s.base + s.config.regMap.icrOff.setWidth 64) s.opa]) 0 0))

/-- From 44_mode_dispatch R226: but for `REG.RD ID` and `ICR.SEND`, the two modes give equal results and
status for the same answer and write equal 32-bit words. Nothing is said of the other fields, and a read
and a fence carry no word, so `payload` does not tell them apart. -/
def Obligations.ModesGiveEqualResultsAndWords : Prop :=
  ∀ (s ta tb : State) (i : Instr),
    i ≠ .regRd .id → (∃ r, i = .regRd r ∨ i = .regWr r) ∨ i = .esrClr ∨ i = .eoi →
    exec i { s with mode := .xapic } = .next ta → exec i { s with mode := .x2apic } = .next tb →
    ta.res0 = tb.res0 ∧ ta.res1 = tb.res1 ∧ ta.stat = tb.stat ∧
      ta.trace.map Transaction.payload = tb.trace.map Transaction.payload

/-- 20_memory R55: the default register map. The entries the source does not fix are general knowledge in
the spec itself, PRESUMED (log 12). -/
def Obligations.DefaultRegisterMap : Prop :=
  ∀ q ∈ ([(.id, 0x802, 0x020), (.version, 0x803, 0x030), (.eoi, 0x80B, 0x0B0),
      (.esr, 0x828, 0x280), (.lvtCmci, 0x82F, 0x2F0), (.icr, 0x830, 0x300),
      (.lvtTimer, 0x832, 0x320), (.lvtThermal, 0x833, 0x330), (.lvtPerf, 0x834, 0x340),
      (.lvtLint0, 0x835, 0x350), (.lvtLint1, 0x836, 0x360), (.lvtError, 0x837, 0x370),
      (.tic, 0x838, 0x380), (.tcc, 0x839, 0x390), (.tdc, 0x83E, 0x3E0)] :
      List (LogicalReg × Word × BitVec 12)),
    ∃ rr, q.1.routed = some rr ∧ Config.default.msr rr = q.2.1 ∧ Config.default.off rr = q.2.2 ∧
      Config.default.regMap.icrHighOff = 0x310 ∧ Config.default.x2IcrHighMsr = 0x831

/-- 20_memory R56, R59: with an aligned base an address never carries out of its page, equals the or of
base and offset, and is a multiple of 16 when the offsets are. -/
def Obligations.PageAddressesNeverCarry : Prop :=
  ∀ (s : State) (rr : RoutedReg), s.Inv →
    s.pageAddr (s.config.off rr) = s.base ||| (s.config.off rr).setWidth 64 ∧
    (s.pageAddr (s.config.off rr)).toNat = s.base.toNat + (s.config.off rr).toNat ∧
    (s.pageAddr (s.config.off rr)).toNat % 16 = 0

/-! ### All commands -/

/-- 60_exceptions R252, R256, 40_bitfield_primitives R115: every command either completes `OK`, with
`HALT`, `FCODE` and `FCMD` as they were, or is a fatal with one of the 18 reachable codes and no other
trace; `BitfieldOverflow` is raised by none. -/
def Obligations.CommandCompletesOrIsFatal : Prop :=
  ∀ (i : Instr) (s : State), ∃ t, exec i s = .next t ∧
    ((t.stat = some .ok ∧ t.seq = s.seq + 1 ∧ t.halt = s.halt ∧ t.fcode = s.fcode ∧
        t.fcmd = s.fcmd ∧ t.res0.isSome = true ∧ t.res1.isSome = true ∧ t.config = s.config ∧
        t.inputs = s.inputs) ∨
      ∃ code ∈ reachableCodes, t = fatalState s code)

/-- 70_reset_and_hazards R293, 41 to 43: a pure command emits nothing, makes no read and leaves `MODE` and
`BASE` as they were, and nothing of its outcome depends on either. A fatal one writes `HALT`, `FCODE` and
`FCMD`, of which `CommandCompletesOrIsFatal` speaks. -/
def Obligations.PureCommandsNeitherEmitNorReadMode : Prop :=
  ∀ (i : Instr) (s t : State), isPure i = true → exec i s = .next t →
    t.mode = s.mode ∧ t.base = s.base ∧ t.trace = s.trace ∧ t.answers = s.answers ∧
    t.reads = s.reads ∧
    ∀ (m : Mode) (b : DWord), exec i { s with mode := m, base := b } = .next { t with mode := m, base := b }

/-- 10_state R23: the outcome of a command does not depend on an operand port its rule does not name. -/
def Obligations.UnnamedPortsAreIgnored : Prop :=
  ∀ (i : Instr) (s t : State) (x : Word), exec i s = .next t →
    (usesOpa i = false → exec i { s with opa := x } = .next { t with opa := x }) ∧
    (usesOpb i = false → exec i { s with opb := x } = .next { t with opb := x })

/-- 00_scope R9: only the setting of TSC-Deadline looks at `CAP_TSC_DEADLINE`. -/
def Obligations.CapabilityReadByTimerModeOnly : Prop :=
  ∀ (i : Instr) (s t : State) (b : Bool), i ≠ .lvtSettm .timer .tscDeadline → exec i s = .next t →
    exec i { s with config := { s.config with capTscDeadline := b } } =
      .next { t with config := { t.config with capTscDeadline := b } }

/-- 20_memory R50 to R54, R57: what a command adds to the trace is of the kind its mode allows, inside the
map, and a fence only after a write of the timer entry. -/
def Obligations.TransactionsMatchMode : Prop :=
  ∀ (i : Instr) (s t : State), s.Inv → exec i s = .next t →
    ∃ ts, t.trace = s.trace ++ ts ∧ ts.length ≤ 2 ∧
      (∀ x ∈ ts, x.allowedIn s.mode = true ∧ x.routed s.config = true) ∧
      (Transaction.fence ∈ ts → i = .regWr .lvtTimer)
end

