-- ==== Sys2Proof/Laws/BitField.lean ====
section
/-! SUPPORT. What the bit-field primitives do, bit by bit: later proofs cite these and never unfold a
primitive. -/

namespace Sys2Proof.Machine

variable {W : Nat}

theorem fieldMask_getLsbD (hi lo i : Nat) :
    (fieldMask W hi lo).getLsbD i = (decide (i < W) && decide (i < hi - lo + 1)) := by
  simp [fieldMask, BitVec.getLsbD_ofNat, Nat.testBit_two_pow_sub_one]

/-- `getBits` reads the bits from `lo` upward, up to the field's width. -/
theorem getBits_getLsbD (w : BitVec W) (hi lo i : Nat) :
    (getBits w hi lo).getLsbD i = (decide (i < hi - lo + 1) && w.getLsbD (lo + i)) := by
  rw [getBits, BitVec.getLsbD_and, fieldMask_getLsbD, BitVec.getLsbD_ushiftRight]
  by_cases h : i < W
  · rw [decide_eq_true h, Bool.true_and, Bool.and_comm]
  · rw [BitVec.getLsbD_of_ge w (lo + i) (by omega), Bool.false_and, Bool.and_false]

/-- A fitting value is written. -/
theorem setBits_of_fits (w : BitVec W) (hi lo : Nat) (v : BitVec W)
    (h : v.toNat < 2 ^ (hi - lo + 1)) :
    setBits w hi lo v = .ok ((w &&& ~~~(fieldMask W hi lo <<< lo)) ||| (v <<< lo)) := by
  simp [setBits, h]

/-- A value wider than the field is the fatal of R111. -/
theorem setBits_of_overflow (w : BitVec W) (hi lo : Nat) (v : BitVec W)
    (h : ¬ v.toNat < 2 ^ (hi - lo + 1)) :
    setBits w hi lo v = .error .bitfieldOverflow := by
  simp [setBits, h]

/-- All that `setBits` can answer. -/
theorem setBits_cases (w : BitVec W) (hi lo : Nat) (v : BitVec W) :
    (v.toNat < 2 ^ (hi - lo + 1) ∧ ∃ w', setBits w hi lo v = .ok w') ∨
    (¬ v.toNat < 2 ^ (hi - lo + 1) ∧ setBits w hi lo v = .error .bitfieldOverflow) := by
  by_cases h : v.toNat < 2 ^ (hi - lo + 1)
  · exact .inl ⟨h, _, setBits_of_fits w hi lo v h⟩
  · exact .inr ⟨h, setBits_of_overflow w hi lo v h⟩

/-- The value written, bit by bit: the field holds the value, every other bit is kept. -/
theorem setBits_getLsbD (w w' : BitVec W) (hi lo : Nat) (v : BitVec W)
    (h : setBits w hi lo v = .ok w') (i : Nat) (hi' : i < W) :
    w'.getLsbD i =
      if lo ≤ i ∧ i < lo + (hi - lo + 1) then v.getLsbD (i - lo) else w.getLsbD i := by
  obtain ⟨fits, _⟩ | ⟨_, bad⟩ := setBits_cases w hi lo v
  · rw [setBits_of_fits w hi lo v fits] at h
    cases h
    simp only [BitVec.getLsbD_or, BitVec.getLsbD_and, BitVec.getLsbD_not, BitVec.getLsbD_shiftLeft,
      fieldMask_getLsbD]
    by_cases h1 : i < lo
    · have : ¬ lo ≤ i := by omega
      simp [h1, this, hi']
    · by_cases h2 : i < lo + (hi - lo + 1)
      · have h3 : i - lo < hi - lo + 1 := by omega
        have h4 : i - lo < W := by omega
        simp [h1, h2, h3, h4, hi', show lo ≤ i by omega]
      · have h3 : ¬ i - lo < hi - lo + 1 := by omega
        have h5 : v.getLsbD (i - lo) = false := by
          rw [BitVec.getLsbD]
          exact Nat.testBit_lt_two_pow (lt_of_lt_of_le fits (Nat.pow_le_pow_right (by decide) (by omega)))
        simp [h1, h2, h3, h5, hi']
  · rw [bad] at h; cases h

/-- `setBit` writes one bit. -/
theorem setBit_getLsbD (w : BitVec W) (n : Nat) (b : Bool) (i : Nat) (hi : i < W) :
    (setBit w n b).getLsbD i = if i = n then b else w.getLsbD i := by
  simp only [setBit, bitWord, BitVec.getLsbD_or, BitVec.getLsbD_and, BitVec.getLsbD_not,
    BitVec.getLsbD_shiftLeft, fieldMask_getLsbD, BitVec.getLsbD_setWidth, BitVec.getLsbD_ofBool]
  by_cases h1 : i < n
  · simp [h1, hi, show i ≠ n by omega]
  · by_cases h2 : i = n
    · subst h2
      cases b <;> simp [hi, show 0 < W by omega]
    · have h3 : ¬ i - n = 0 := by omega
      simp [h1, h2, hi, h3]

/-- Bits of the two halves put together. -/
theorem concat_getLsbD (hi lo : Word) (i : Nat) :
    (concat hi lo).getLsbD i = if i < 32 then lo.getLsbD i else hi.getLsbD (i - 32) := by
  by_cases h : i < 32
  · simp [concat, h, show i < 64 by omega]
  · have low : lo.getLsbD i = false := BitVec.getLsbD_of_ge lo i (by omega)
    by_cases h2 : i < 64
    · simp [concat, h, h2, low]
    · simp [concat, h, h2, show 32 ≤ i - 32 by omega]

/-- The halves put together are the concatenation, the first in the upper half (00_scope R10). -/
theorem concat_eq_append (hi lo : Word) : concat hi lo = hi ++ lo := by
  apply BitVec.eq_of_getLsbD_eq
  intro i _
  rw [concat_getLsbD, BitVec.getLsbD_append]

end Sys2Proof.Machine
end

