-- ==== Sys2Proof/Laws/Decode.lean ====
section
/-! SUPPORT. The fields of the words the encoder writes, format by format, and the code tables read back.
Later proofs about decoding cite these and never look into a word. -/

namespace Sys2Proof

theorem field_getLsbD {n : Nat} (v : BitVec n) (lo i : Nat) :
    (field v lo).getLsbD i = (decide (i < 32) && decide (lo ≤ i) && v.getLsbD (i - lo)) := by
  by_cases h : i < 32
  · by_cases h2 : i < lo
    · simp [field, h, h2, show ¬ lo ≤ i by omega]
    · simp [field, h, h2, show lo ≤ i by omega]
  · simp [field, h]

/-! ### The opcode of every format -/

theorem opField_encodeZ (op : Byte) :
    opField (encodeZ op) = op := by
  apply BitVec.eq_of_getLsbD_eq
  intro i hi
  simp only [opField, encodeZ, BitVec.getLsbD_extractLsb', field_getLsbD]
  interval_cases i <;> simp

theorem opField_encodeS (op : Byte) (sel : BitVec 5) :
    opField (encodeS op sel) = op := by
  apply BitVec.eq_of_getLsbD_eq
  intro i hi
  simp only [opField, encodeS, BitVec.getLsbD_extractLsb', BitVec.getLsbD_or, field_getLsbD]
  interval_cases i <;> simp

theorem opField_encodeI (op imm : Byte) :
    opField (encodeI op imm) = op := by
  apply BitVec.eq_of_getLsbD_eq
  intro i hi
  simp only [opField, encodeI, BitVec.getLsbD_extractLsb', BitVec.getLsbD_or, field_getLsbD]
  interval_cases i <;> simp

theorem opField_encodeSI (op : Byte) (sel : BitVec 5) (imm : Byte) :
    opField (encodeSI op sel imm) = op := by
  apply BitVec.eq_of_getLsbD_eq
  intro i hi
  simp only [opField, encodeSI, BitVec.getLsbD_extractLsb', BitVec.getLsbD_or, field_getLsbD]
  interval_cases i <;> simp

theorem opField_encodeC (op : Byte) (d : IcrDescription) :
    opField (encodeC op d) = op := by
  apply BitVec.eq_of_getLsbD_eq
  intro i hi
  simp only [opField, encodeC, BitVec.getLsbD_extractLsb', BitVec.getLsbD_or, field_getLsbD]
  interval_cases i <;> simp

/-! ### The select and the immediate -/

theorem selField_encodeS (op : Byte) (sel : BitVec 5) :
    selField (encodeS op sel) = sel := by
  apply BitVec.eq_of_getLsbD_eq
  intro i hi
  simp only [selField, encodeS, BitVec.getLsbD_extractLsb', BitVec.getLsbD_or, field_getLsbD]
  interval_cases i <;> simp

theorem selField_encodeSI (op : Byte) (sel : BitVec 5) (imm : Byte) :
    selField (encodeSI op sel imm) = sel := by
  apply BitVec.eq_of_getLsbD_eq
  intro i hi
  simp only [selField, encodeSI, BitVec.getLsbD_extractLsb', BitVec.getLsbD_or, field_getLsbD]
  interval_cases i <;> simp

theorem immField_encodeI (op imm : Byte) :
    immField (encodeI op imm) = imm := by
  apply BitVec.eq_of_getLsbD_eq
  intro i hi
  simp only [immField, encodeI, BitVec.getLsbD_extractLsb', BitVec.getLsbD_or, field_getLsbD]
  interval_cases i <;> simp

theorem immField_encodeSI (op : Byte) (sel : BitVec 5) (imm : Byte) :
    immField (encodeSI op sel imm) = imm := by
  apply BitVec.eq_of_getLsbD_eq
  intro i hi
  simp only [immField, encodeSI, BitVec.getLsbD_extractLsb', BitVec.getLsbD_or, field_getLsbD]
  interval_cases i <;> simp

/-! ### The fields of format `C` -/

theorem dmField_encodeC (op : Byte) (d : IcrDescription) :
    dmField (encodeC op d) = d.dm.code := by
  apply BitVec.eq_of_getLsbD_eq
  intro i hi
  simp only [dmField, encodeC, BitVec.getLsbD_extractLsb', BitVec.getLsbD_or, field_getLsbD]
  interval_cases i <;> simp

theorem dkindField_encodeC (op : Byte) (d : IcrDescription) :
    dkindField (encodeC op d) = d.dkind.code := by
  apply BitVec.eq_of_getLsbD_eq
  intro i hi
  simp only [dkindField, encodeC, BitVec.getLsbD_extractLsb', BitVec.getLsbD_or, field_getLsbD]
  interval_cases i <;> simp

theorem immField_encodeC (op : Byte) (d : IcrDescription) :
    immField (encodeC op d) = d.vec := by
  apply BitVec.eq_of_getLsbD_eq
  intro i hi
  simp only [immField, encodeC, BitVec.getLsbD_extractLsb', BitVec.getLsbD_or, field_getLsbD]
  interval_cases i <;> simp

theorem bitField_8_encodeC (op : Byte) (d : IcrDescription) :
    bitField (encodeC op d) 8 = d.vp := by
  simp only [bitField, encodeC, BitVec.getLsbD_or, field_getLsbD]
  simp

theorem bitField_12_encodeC (op : Byte) (d : IcrDescription) :
    bitField (encodeC op d) 12 = d.dstm.bit := by
  simp only [bitField, encodeC, BitVec.getLsbD_or, field_getLsbD]
  simp

theorem bitField_13_encodeC (op : Byte) (d : IcrDescription) :
    bitField (encodeC op d) 13 = d.trig.bit := by
  simp only [bitField, encodeC, BitVec.getLsbD_or, field_getLsbD]
  simp

theorem bitField_14_encodeC (op : Byte) (d : IcrDescription) :
    bitField (encodeC op d) 14 = d.asrt.bit := by
  simp only [bitField, encodeC, BitVec.getLsbD_or, field_getLsbD]
  simp

/-! ### The must-be-zero bits -/

theorem reservedClear_encodeZ (op : Byte) : reservedClear maskZ (encodeZ op) = true := by
  simp only [reservedClear, opField_encodeZ, beq_iff_eq]
  apply BitVec.eq_of_getLsbD_eq
  intro i hi
  simp only [encodeZ, BitVec.getLsbD_and, field_getLsbD, BitVec.getLsbD_setWidth]
  interval_cases i <;> simp [maskZ]

theorem reservedClear_encodeS (op : Byte) (sel : BitVec 5) :
    reservedClear maskS (encodeS op sel) = true := by
  simp only [reservedClear, opField_encodeS, beq_iff_eq]
  apply BitVec.eq_of_getLsbD_eq
  intro i hi
  simp only [encodeS, BitVec.getLsbD_and, BitVec.getLsbD_or, field_getLsbD,
    BitVec.getLsbD_setWidth]
  interval_cases i <;> simp [maskS]

theorem reservedClear_encodeI (op imm : Byte) : reservedClear maskI (encodeI op imm) = true := by
  simp only [reservedClear, opField_encodeI, beq_iff_eq]
  apply BitVec.eq_of_getLsbD_eq
  intro i hi
  simp only [encodeI, BitVec.getLsbD_and, BitVec.getLsbD_or, field_getLsbD,
    BitVec.getLsbD_setWidth]
  interval_cases i <;> simp [maskI]

theorem reservedClear_encodeSI (op : Byte) (sel : BitVec 5) (imm : Byte) :
    reservedClear maskSI (encodeSI op sel imm) = true := by
  simp only [reservedClear, opField_encodeSI, beq_iff_eq]
  apply BitVec.eq_of_getLsbD_eq
  intro i hi
  simp only [encodeSI, BitVec.getLsbD_and, BitVec.getLsbD_or, field_getLsbD,
    BitVec.getLsbD_setWidth]
  interval_cases i <;> simp [maskSI]

theorem reservedClear_encodeC (op : Byte) (d : IcrDescription) :
    reservedClear maskC (encodeC op d) = true := by
  simp only [reservedClear, opField_encodeC, beq_iff_eq]
  apply BitVec.eq_of_getLsbD_eq
  intro i hi
  simp only [encodeC, BitVec.getLsbD_and, BitVec.getLsbD_or, field_getLsbD,
    BitVec.getLsbD_setWidth]
  interval_cases i <;> simp [maskC]

/-! ### The code tables read back -/

theorem Backend.ofCode_code (m : Backend) : Backend.ofCode m.code = some m := by
  cases m <;> rfl

theorem LvtKind.ofCode_code (k : LvtKind) : LvtKind.ofCode k.code = some k := by
  cases k <;> rfl

theorem LogicalReg.ofCode_code (r : LogicalReg) : LogicalReg.ofCode r.code = some r := by
  cases r <;> rfl

theorem DeliveryMode.ofCode_code (d : DeliveryMode) :
    DeliveryMode.ofCode d.code.toNat = some d := by
  cases d <;> rfl

theorem DeliveryMode.ofCode_code_byte (d : DeliveryMode) :
    DeliveryMode.ofCode (d.code.setWidth 8).toNat = some d := by
  cases d <;> rfl

theorem TimerMode.ofCode_code (t : TimerMode) : TimerMode.ofCode (t.code.setWidth 8) = some t := by
  cases t <;> rfl

theorem maskBitOfCode_code (m : Bool) :
    maskBitOfCode ((BitVec.ofBool m).setWidth 8) = some m := by
  cases m <;> rfl

theorem indexOfCode_code (i : Fin 8) : indexOfCode (BitVec.ofNat 8 i.val) = some i := by
  revert i; decide

theorem DestinationKind.ofCode_code (k : DestinationKind) : DestinationKind.ofCode k.code = k := by
  cases k <;> rfl

theorem DestinationMode.ofBit_bit (m : DestinationMode) : DestinationMode.ofBit m.bit = m := by
  cases m <;> rfl

theorem TriggerMode.ofBit_bit (m : TriggerMode) : TriggerMode.ofBit m.bit = m := by
  cases m <;> rfl

theorem AssertMode.ofBit_bit (m : AssertMode) : AssertMode.ofBit m.bit = m := by
  cases m <;> rfl

/-! ### What a decoder of one format can answer -/

/-- A word that a format accepts is the opcode and the selected fields, so all other bits are zero. -/
theorem reservedClear_iff (mask w : Word) :
    reservedClear mask w = true ↔ w &&& mask = (opField w).setWidth 32 := by
  simp [reservedClear]

theorem decodeZ_ok {w : Word} {i j : Instr} (h : decodeZ w i = .ok j) :
    j = i ∧ reservedClear maskZ w = true := by
  unfold decodeZ at h
  split at h
  · rename_i hr; cases h; exact ⟨rfl, hr⟩
  · cases h

theorem decodeKind_ok {w : Word} {mk : LvtKind → Instr} {j : Instr} (h : decodeKind w mk = .ok j) :
    ∃ k, LvtKind.ofCode (selField w) = some k ∧ j = mk k ∧ reservedClear maskS w = true := by
  unfold decodeKind at h
  split at h
  · rename_i hr
    split at h
    · rename_i k hk; cases h; exact ⟨k, hk, rfl, hr⟩
    · cases h
  · cases h

theorem decodeReg_ok {w : Word} {mk : LogicalReg → Instr} {j : Instr} (h : decodeReg w mk = .ok j) :
    ∃ r, LogicalReg.ofCode (selField w) = some r ∧ j = mk r ∧ reservedClear maskS w = true := by
  unfold decodeReg at h
  split at h
  · rename_i hr
    split at h
    · rename_i k hk; cases h; exact ⟨k, hk, rfl, hr⟩
    · cases h
  · cases h

theorem decodeI_ok {α : Type} {w : Word} {read : Byte → Option α} {mk : α → Instr} {j : Instr}
    (h : decodeI w read mk = .ok j) :
    ∃ a, read (immField w) = some a ∧ j = mk a ∧ reservedClear maskI w = true := by
  unfold decodeI at h
  split at h
  · rename_i hr
    split at h
    · rename_i a ha; cases h; exact ⟨a, ha, rfl, hr⟩
    · cases h
  · cases h

theorem decodeSI_ok {α : Type} {w : Word} {read : Byte → Option α} {mk : LvtKind → α → Instr}
    {j : Instr} (h : decodeSI w read mk = .ok j) :
    ∃ k a, LvtKind.ofCode (selField w) = some k ∧ read (immField w) = some a ∧ j = mk k a ∧
      reservedClear maskSI w = true := by
  unfold decodeSI at h
  split at h
  · rename_i hr
    split at h
    · cases h
    · rename_i k hk
      split at h
      · rename_i a ha; cases h; exact ⟨k, a, hk, ha, rfl, hr⟩
      · cases h
  · cases h

theorem decodeC_ok {w : Word} {j : Instr} (h : decodeC w = .ok j) :
    ∃ d : IcrDescription, j = .icrBuild d ∧ d.wellFormed = true ∧ reservedClear maskC w = true ∧
      DeliveryMode.ofCode (dmField w).toNat = some d.dm ∧ d.vp = bitField w 8 ∧
      d.dstm = DestinationMode.ofBit (bitField w 12) ∧ d.trig = TriggerMode.ofBit (bitField w 13) ∧
      d.asrt = AssertMode.ofBit (bitField w 14) ∧ d.vec = immField w ∧
      d.dkind = DestinationKind.ofCode (dkindField w) := by
  unfold decodeC at h
  split at h
  · rename_i hr
    split at h
    · cases h
    · rename_i dm hdm
      dsimp only at h
      split at h
      · rename_i hwf; cases h; exact ⟨_, rfl, hwf, hr, hdm, rfl, rfl, rfl, rfl, rfl, rfl⟩
      · cases h
  · cases h

end Sys2Proof
end

