-- ==== Sys2Proof/Laws/State.lean ====
section
/-! SUPPORT. The small lemmas of the state updates: for each update of Machine/Ops.lean, what each field is
afterwards. No later proof unfolds a record update. -/

namespace Sys2Proof.Machine

variable (s : State)

/-! ### complete -/

@[simp] theorem State.complete_mode (r0 r1 : Word) :
    (s.complete r0 r1).mode = s.mode := rfl
@[simp] theorem State.complete_base (r0 r1 : Word) :
    (s.complete r0 r1).base = s.base := rfl
@[simp] theorem State.complete_halt (r0 r1 : Word) :
    (s.complete r0 r1).halt = s.halt := rfl
@[simp] theorem State.complete_fcode (r0 r1 : Word) :
    (s.complete r0 r1).fcode = s.fcode := rfl
@[simp] theorem State.complete_fcmd (r0 r1 : Word) :
    (s.complete r0 r1).fcmd = s.fcmd := rfl
@[simp] theorem State.complete_cmd (r0 r1 : Word) :
    (s.complete r0 r1).cmd = s.cmd := rfl
@[simp] theorem State.complete_opa (r0 r1 : Word) :
    (s.complete r0 r1).opa = s.opa := rfl
@[simp] theorem State.complete_opb (r0 r1 : Word) :
    (s.complete r0 r1).opb = s.opb := rfl
@[simp] theorem State.complete_res0 (r0 r1 : Word) :
    (s.complete r0 r1).res0 = some r0 := rfl
@[simp] theorem State.complete_res1 (r0 r1 : Word) :
    (s.complete r0 r1).res1 = some r1 := rfl
@[simp] theorem State.complete_stat (r0 r1 : Word) :
    (s.complete r0 r1).stat = some .ok := rfl
@[simp] theorem State.complete_seq (r0 r1 : Word) :
    (s.complete r0 r1).seq = s.seq + 1 := rfl
@[simp] theorem State.complete_inputs (r0 r1 : Word) :
    (s.complete r0 r1).inputs = s.inputs := rfl
@[simp] theorem State.complete_trace (r0 r1 : Word) :
    (s.complete r0 r1).trace = s.trace := rfl
@[simp] theorem State.complete_answers (r0 r1 : Word) :
    (s.complete r0 r1).answers = s.answers := rfl
@[simp] theorem State.complete_reads (r0 r1 : Word) :
    (s.complete r0 r1).reads = s.reads := rfl
@[simp] theorem State.complete_config (r0 r1 : Word) :
    (s.complete r0 r1).config = s.config := rfl

/-! ### raiseFatal -/

@[simp] theorem State.raiseFatal_mode (c : FatalCode) :
    (s.raiseFatal c).mode = s.mode := rfl
@[simp] theorem State.raiseFatal_base (c : FatalCode) :
    (s.raiseFatal c).base = s.base := rfl
@[simp] theorem State.raiseFatal_halt (c : FatalCode) :
    (s.raiseFatal c).halt = true := rfl
@[simp] theorem State.raiseFatal_fcode (c : FatalCode) :
    (s.raiseFatal c).fcode = c.code := rfl
@[simp] theorem State.raiseFatal_fcmd (c : FatalCode) :
    (s.raiseFatal c).fcmd = s.cmd := rfl
@[simp] theorem State.raiseFatal_cmd (c : FatalCode) :
    (s.raiseFatal c).cmd = s.cmd := rfl
@[simp] theorem State.raiseFatal_opa (c : FatalCode) :
    (s.raiseFatal c).opa = s.opa := rfl
@[simp] theorem State.raiseFatal_opb (c : FatalCode) :
    (s.raiseFatal c).opb = s.opb := rfl
@[simp] theorem State.raiseFatal_res0 (c : FatalCode) :
    (s.raiseFatal c).res0 = none := rfl
@[simp] theorem State.raiseFatal_res1 (c : FatalCode) :
    (s.raiseFatal c).res1 = none := rfl
@[simp] theorem State.raiseFatal_stat (c : FatalCode) :
    (s.raiseFatal c).stat = some (.fatal c.code) := rfl
@[simp] theorem State.raiseFatal_seq (c : FatalCode) :
    (s.raiseFatal c).seq = s.seq := rfl
@[simp] theorem State.raiseFatal_inputs (c : FatalCode) :
    (s.raiseFatal c).inputs = s.inputs := rfl
@[simp] theorem State.raiseFatal_trace (c : FatalCode) :
    (s.raiseFatal c).trace = s.trace := rfl
@[simp] theorem State.raiseFatal_answers (c : FatalCode) :
    (s.raiseFatal c).answers = s.answers := rfl
@[simp] theorem State.raiseFatal_reads (c : FatalCode) :
    (s.raiseFatal c).reads = s.reads := rfl
@[simp] theorem State.raiseFatal_config (c : FatalCode) :
    (s.raiseFatal c).config = s.config := rfl

/-! ### refuse -/

@[simp] theorem State.refuse_mode :
    (s.refuse).mode = s.mode := rfl
@[simp] theorem State.refuse_base :
    (s.refuse).base = s.base := rfl
@[simp] theorem State.refuse_halt :
    (s.refuse).halt = s.halt := rfl
@[simp] theorem State.refuse_fcode :
    (s.refuse).fcode = s.fcode := rfl
@[simp] theorem State.refuse_fcmd :
    (s.refuse).fcmd = s.fcmd := rfl
@[simp] theorem State.refuse_cmd :
    (s.refuse).cmd = s.cmd := rfl
@[simp] theorem State.refuse_opa :
    (s.refuse).opa = s.opa := rfl
@[simp] theorem State.refuse_opb :
    (s.refuse).opb = s.opb := rfl
@[simp] theorem State.refuse_res0 :
    (s.refuse).res0 = none := rfl
@[simp] theorem State.refuse_res1 :
    (s.refuse).res1 = none := rfl
@[simp] theorem State.refuse_stat :
    (s.refuse).stat = some (.fatal s.fcode) := rfl
@[simp] theorem State.refuse_seq :
    (s.refuse).seq = s.seq := rfl
@[simp] theorem State.refuse_inputs :
    (s.refuse).inputs = s.inputs := rfl
@[simp] theorem State.refuse_trace :
    (s.refuse).trace = s.trace := rfl
@[simp] theorem State.refuse_answers :
    (s.refuse).answers = s.answers := rfl
@[simp] theorem State.refuse_reads :
    (s.refuse).reads = s.reads := rfl
@[simp] theorem State.refuse_config :
    (s.refuse).config = s.config := rfl

/-! ### applyReset -/

@[simp] theorem State.applyReset_mode :
    (s.applyReset).mode = .unsel := rfl
@[simp] theorem State.applyReset_base :
    (s.applyReset).base = 0 := rfl
@[simp] theorem State.applyReset_halt :
    (s.applyReset).halt = false := rfl
@[simp] theorem State.applyReset_fcode :
    (s.applyReset).fcode = 0 := rfl
@[simp] theorem State.applyReset_fcmd :
    (s.applyReset).fcmd = 0 := rfl
@[simp] theorem State.applyReset_cmd :
    (s.applyReset).cmd = 0 := rfl
@[simp] theorem State.applyReset_opa :
    (s.applyReset).opa = 0 := rfl
@[simp] theorem State.applyReset_opb :
    (s.applyReset).opb = 0 := rfl
@[simp] theorem State.applyReset_res0 :
    (s.applyReset).res0 = none := rfl
@[simp] theorem State.applyReset_res1 :
    (s.applyReset).res1 = none := rfl
@[simp] theorem State.applyReset_stat :
    (s.applyReset).stat = none := rfl
@[simp] theorem State.applyReset_seq :
    (s.applyReset).seq = 0 := rfl
@[simp] theorem State.applyReset_inputs :
    (s.applyReset).inputs = s.inputs := rfl
@[simp] theorem State.applyReset_trace :
    (s.applyReset).trace = s.trace := rfl
@[simp] theorem State.applyReset_answers :
    (s.applyReset).answers = s.answers := rfl
@[simp] theorem State.applyReset_reads :
    (s.applyReset).reads = s.reads := rfl
@[simp] theorem State.applyReset_config :
    (s.applyReset).config = s.config := rfl

/-! ### emit -/

@[simp] theorem State.emit_mode (t : Transaction) :
    (s.emit t).mode = s.mode := rfl
@[simp] theorem State.emit_base (t : Transaction) :
    (s.emit t).base = s.base := rfl
@[simp] theorem State.emit_halt (t : Transaction) :
    (s.emit t).halt = s.halt := rfl
@[simp] theorem State.emit_fcode (t : Transaction) :
    (s.emit t).fcode = s.fcode := rfl
@[simp] theorem State.emit_fcmd (t : Transaction) :
    (s.emit t).fcmd = s.fcmd := rfl
@[simp] theorem State.emit_cmd (t : Transaction) :
    (s.emit t).cmd = s.cmd := rfl
@[simp] theorem State.emit_opa (t : Transaction) :
    (s.emit t).opa = s.opa := rfl
@[simp] theorem State.emit_opb (t : Transaction) :
    (s.emit t).opb = s.opb := rfl
@[simp] theorem State.emit_res0 (t : Transaction) :
    (s.emit t).res0 = s.res0 := rfl
@[simp] theorem State.emit_res1 (t : Transaction) :
    (s.emit t).res1 = s.res1 := rfl
@[simp] theorem State.emit_stat (t : Transaction) :
    (s.emit t).stat = s.stat := rfl
@[simp] theorem State.emit_seq (t : Transaction) :
    (s.emit t).seq = s.seq := rfl
@[simp] theorem State.emit_inputs (t : Transaction) :
    (s.emit t).inputs = s.inputs := rfl
@[simp] theorem State.emit_trace (t : Transaction) :
    (s.emit t).trace = s.trace ++ [t] := rfl
@[simp] theorem State.emit_answers (t : Transaction) :
    (s.emit t).answers = s.answers := rfl
@[simp] theorem State.emit_reads (t : Transaction) :
    (s.emit t).reads = s.reads := rfl
@[simp] theorem State.emit_config (t : Transaction) :
    (s.emit t).config = s.config := rfl

/-! ### takeAnswer -/

@[simp] theorem State.takeAnswer_mode :
    (s.takeAnswer).mode = s.mode := rfl
@[simp] theorem State.takeAnswer_base :
    (s.takeAnswer).base = s.base := rfl
@[simp] theorem State.takeAnswer_halt :
    (s.takeAnswer).halt = s.halt := rfl
@[simp] theorem State.takeAnswer_fcode :
    (s.takeAnswer).fcode = s.fcode := rfl
@[simp] theorem State.takeAnswer_fcmd :
    (s.takeAnswer).fcmd = s.fcmd := rfl
@[simp] theorem State.takeAnswer_cmd :
    (s.takeAnswer).cmd = s.cmd := rfl
@[simp] theorem State.takeAnswer_opa :
    (s.takeAnswer).opa = s.opa := rfl
@[simp] theorem State.takeAnswer_opb :
    (s.takeAnswer).opb = s.opb := rfl
@[simp] theorem State.takeAnswer_res0 :
    (s.takeAnswer).res0 = s.res0 := rfl
@[simp] theorem State.takeAnswer_res1 :
    (s.takeAnswer).res1 = s.res1 := rfl
@[simp] theorem State.takeAnswer_stat :
    (s.takeAnswer).stat = s.stat := rfl
@[simp] theorem State.takeAnswer_seq :
    (s.takeAnswer).seq = s.seq := rfl
@[simp] theorem State.takeAnswer_inputs :
    (s.takeAnswer).inputs = s.inputs := rfl
@[simp] theorem State.takeAnswer_trace :
    (s.takeAnswer).trace = s.trace := rfl
@[simp] theorem State.takeAnswer_answers :
    (s.takeAnswer).answers = s.answers.tail := rfl
@[simp] theorem State.takeAnswer_reads :
    (s.takeAnswer).reads = s.reads + 1 := rfl
@[simp] theorem State.takeAnswer_config :
    (s.takeAnswer).config = s.config := rfl

/-! ### msrWrite -/

@[simp] theorem State.msrWrite_mode (idx : Word) (v : DWord) :
    (s.msrWrite idx v).mode = s.mode := rfl
@[simp] theorem State.msrWrite_base (idx : Word) (v : DWord) :
    (s.msrWrite idx v).base = s.base := rfl
@[simp] theorem State.msrWrite_halt (idx : Word) (v : DWord) :
    (s.msrWrite idx v).halt = s.halt := rfl
@[simp] theorem State.msrWrite_fcode (idx : Word) (v : DWord) :
    (s.msrWrite idx v).fcode = s.fcode := rfl
@[simp] theorem State.msrWrite_fcmd (idx : Word) (v : DWord) :
    (s.msrWrite idx v).fcmd = s.fcmd := rfl
@[simp] theorem State.msrWrite_cmd (idx : Word) (v : DWord) :
    (s.msrWrite idx v).cmd = s.cmd := rfl
@[simp] theorem State.msrWrite_opa (idx : Word) (v : DWord) :
    (s.msrWrite idx v).opa = s.opa := rfl
@[simp] theorem State.msrWrite_opb (idx : Word) (v : DWord) :
    (s.msrWrite idx v).opb = s.opb := rfl
@[simp] theorem State.msrWrite_res0 (idx : Word) (v : DWord) :
    (s.msrWrite idx v).res0 = s.res0 := rfl
@[simp] theorem State.msrWrite_res1 (idx : Word) (v : DWord) :
    (s.msrWrite idx v).res1 = s.res1 := rfl
@[simp] theorem State.msrWrite_stat (idx : Word) (v : DWord) :
    (s.msrWrite idx v).stat = s.stat := rfl
@[simp] theorem State.msrWrite_seq (idx : Word) (v : DWord) :
    (s.msrWrite idx v).seq = s.seq := rfl
@[simp] theorem State.msrWrite_inputs (idx : Word) (v : DWord) :
    (s.msrWrite idx v).inputs = s.inputs := rfl
@[simp] theorem State.msrWrite_trace (idx : Word) (v : DWord) :
    (s.msrWrite idx v).trace = s.trace ++ [.msrWrite idx v] := rfl
@[simp] theorem State.msrWrite_answers (idx : Word) (v : DWord) :
    (s.msrWrite idx v).answers = s.answers := rfl
@[simp] theorem State.msrWrite_reads (idx : Word) (v : DWord) :
    (s.msrWrite idx v).reads = s.reads := rfl
@[simp] theorem State.msrWrite_config (idx : Word) (v : DWord) :
    (s.msrWrite idx v).config = s.config := rfl

/-! ### memWrite -/

@[simp] theorem State.memWrite_mode (addr : DWord) (v : Word) :
    (s.memWrite addr v).mode = s.mode := rfl
@[simp] theorem State.memWrite_base (addr : DWord) (v : Word) :
    (s.memWrite addr v).base = s.base := rfl
@[simp] theorem State.memWrite_halt (addr : DWord) (v : Word) :
    (s.memWrite addr v).halt = s.halt := rfl
@[simp] theorem State.memWrite_fcode (addr : DWord) (v : Word) :
    (s.memWrite addr v).fcode = s.fcode := rfl
@[simp] theorem State.memWrite_fcmd (addr : DWord) (v : Word) :
    (s.memWrite addr v).fcmd = s.fcmd := rfl
@[simp] theorem State.memWrite_cmd (addr : DWord) (v : Word) :
    (s.memWrite addr v).cmd = s.cmd := rfl
@[simp] theorem State.memWrite_opa (addr : DWord) (v : Word) :
    (s.memWrite addr v).opa = s.opa := rfl
@[simp] theorem State.memWrite_opb (addr : DWord) (v : Word) :
    (s.memWrite addr v).opb = s.opb := rfl
@[simp] theorem State.memWrite_res0 (addr : DWord) (v : Word) :
    (s.memWrite addr v).res0 = s.res0 := rfl
@[simp] theorem State.memWrite_res1 (addr : DWord) (v : Word) :
    (s.memWrite addr v).res1 = s.res1 := rfl
@[simp] theorem State.memWrite_stat (addr : DWord) (v : Word) :
    (s.memWrite addr v).stat = s.stat := rfl
@[simp] theorem State.memWrite_seq (addr : DWord) (v : Word) :
    (s.memWrite addr v).seq = s.seq := rfl
@[simp] theorem State.memWrite_inputs (addr : DWord) (v : Word) :
    (s.memWrite addr v).inputs = s.inputs := rfl
@[simp] theorem State.memWrite_trace (addr : DWord) (v : Word) :
    (s.memWrite addr v).trace = s.trace ++ [.memWrite addr v] := rfl
@[simp] theorem State.memWrite_answers (addr : DWord) (v : Word) :
    (s.memWrite addr v).answers = s.answers := rfl
@[simp] theorem State.memWrite_reads (addr : DWord) (v : Word) :
    (s.memWrite addr v).reads = s.reads := rfl
@[simp] theorem State.memWrite_config (addr : DWord) (v : Word) :
    (s.memWrite addr v).config = s.config := rfl

/-! ### fence -/

@[simp] theorem State.fence_mode :
    (s.fence).mode = s.mode := rfl
@[simp] theorem State.fence_base :
    (s.fence).base = s.base := rfl
@[simp] theorem State.fence_halt :
    (s.fence).halt = s.halt := rfl
@[simp] theorem State.fence_fcode :
    (s.fence).fcode = s.fcode := rfl
@[simp] theorem State.fence_fcmd :
    (s.fence).fcmd = s.fcmd := rfl
@[simp] theorem State.fence_cmd :
    (s.fence).cmd = s.cmd := rfl
@[simp] theorem State.fence_opa :
    (s.fence).opa = s.opa := rfl
@[simp] theorem State.fence_opb :
    (s.fence).opb = s.opb := rfl
@[simp] theorem State.fence_res0 :
    (s.fence).res0 = s.res0 := rfl
@[simp] theorem State.fence_res1 :
    (s.fence).res1 = s.res1 := rfl
@[simp] theorem State.fence_stat :
    (s.fence).stat = s.stat := rfl
@[simp] theorem State.fence_seq :
    (s.fence).seq = s.seq := rfl
@[simp] theorem State.fence_inputs :
    (s.fence).inputs = s.inputs := rfl
@[simp] theorem State.fence_trace :
    (s.fence).trace = s.trace ++ [.fence] := rfl
@[simp] theorem State.fence_answers :
    (s.fence).answers = s.answers := rfl
@[simp] theorem State.fence_reads :
    (s.fence).reads = s.reads := rfl
@[simp] theorem State.fence_config :
    (s.fence).config = s.config := rfl

/-! ### sample -/

@[simp] theorem State.sample_mode (c : Command) :
    (s.sample c).mode = s.mode := rfl
@[simp] theorem State.sample_base (c : Command) :
    (s.sample c).base = s.base := rfl
@[simp] theorem State.sample_halt (c : Command) :
    (s.sample c).halt = s.halt := rfl
@[simp] theorem State.sample_fcode (c : Command) :
    (s.sample c).fcode = s.fcode := rfl
@[simp] theorem State.sample_fcmd (c : Command) :
    (s.sample c).fcmd = s.fcmd := rfl
@[simp] theorem State.sample_cmd (c : Command) :
    (s.sample c).cmd = c.cmd := rfl
@[simp] theorem State.sample_opa (c : Command) :
    (s.sample c).opa = c.opa := rfl
@[simp] theorem State.sample_opb (c : Command) :
    (s.sample c).opb = c.opb := rfl
@[simp] theorem State.sample_res0 (c : Command) :
    (s.sample c).res0 = s.res0 := rfl
@[simp] theorem State.sample_res1 (c : Command) :
    (s.sample c).res1 = s.res1 := rfl
@[simp] theorem State.sample_stat (c : Command) :
    (s.sample c).stat = s.stat := rfl
@[simp] theorem State.sample_seq (c : Command) :
    (s.sample c).seq = s.seq := rfl
@[simp] theorem State.sample_inputs (c : Command) :
    (s.sample c).inputs = s.inputs := rfl
@[simp] theorem State.sample_trace (c : Command) :
    (s.sample c).trace = s.trace := rfl
@[simp] theorem State.sample_answers (c : Command) :
    (s.sample c).answers = s.answers := rfl
@[simp] theorem State.sample_reads (c : Command) :
    (s.sample c).reads = s.reads := rfl
@[simp] theorem State.sample_config (c : Command) :
    (s.sample c).config = s.config := rfl

/-! ### selectMode -/

@[simp] theorem State.selectMode_halt (m : Backend) (b : DWord) :
    (s.selectMode m b).halt = s.halt := by cases m <;> rfl
@[simp] theorem State.selectMode_fcode (m : Backend) (b : DWord) :
    (s.selectMode m b).fcode = s.fcode := by cases m <;> rfl
@[simp] theorem State.selectMode_fcmd (m : Backend) (b : DWord) :
    (s.selectMode m b).fcmd = s.fcmd := by cases m <;> rfl
@[simp] theorem State.selectMode_cmd (m : Backend) (b : DWord) :
    (s.selectMode m b).cmd = s.cmd := by cases m <;> rfl
@[simp] theorem State.selectMode_opa (m : Backend) (b : DWord) :
    (s.selectMode m b).opa = s.opa := by cases m <;> rfl
@[simp] theorem State.selectMode_opb (m : Backend) (b : DWord) :
    (s.selectMode m b).opb = s.opb := by cases m <;> rfl
@[simp] theorem State.selectMode_res0 (m : Backend) (b : DWord) :
    (s.selectMode m b).res0 = s.res0 := by cases m <;> rfl
@[simp] theorem State.selectMode_res1 (m : Backend) (b : DWord) :
    (s.selectMode m b).res1 = s.res1 := by cases m <;> rfl
@[simp] theorem State.selectMode_stat (m : Backend) (b : DWord) :
    (s.selectMode m b).stat = s.stat := by cases m <;> rfl
@[simp] theorem State.selectMode_seq (m : Backend) (b : DWord) :
    (s.selectMode m b).seq = s.seq := by cases m <;> rfl
@[simp] theorem State.selectMode_inputs (m : Backend) (b : DWord) :
    (s.selectMode m b).inputs = s.inputs := by cases m <;> rfl
@[simp] theorem State.selectMode_trace (m : Backend) (b : DWord) :
    (s.selectMode m b).trace = s.trace := by cases m <;> rfl
@[simp] theorem State.selectMode_answers (m : Backend) (b : DWord) :
    (s.selectMode m b).answers = s.answers := by cases m <;> rfl
@[simp] theorem State.selectMode_reads (m : Backend) (b : DWord) :
    (s.selectMode m b).reads = s.reads := by cases m <;> rfl
@[simp] theorem State.selectMode_config (m : Backend) (b : DWord) :
    (s.selectMode m b).config = s.config := by cases m <;> rfl
@[simp] theorem State.selectMode_xapic_mode (b : DWord) : (s.selectMode .xapic b).mode = .xapic := rfl
@[simp] theorem State.selectMode_x2apic_mode (b : DWord) : (s.selectMode .x2apic b).mode = .x2apic := rfl
@[simp] theorem State.selectMode_xapic_base (b : DWord) : (s.selectMode .xapic b).base = b := rfl
@[simp] theorem State.selectMode_x2apic_base (b : DWord) : (s.selectMode .x2apic b).base = s.base := rfl

/-! ### writeReg: only the trace changes -/

@[simp] theorem State.writeReg_mode (r : RoutedReg) (v : Word) :
    (s.writeReg r v).mode = s.mode := by unfold State.writeReg; split <;> rfl
@[simp] theorem State.writeReg_base (r : RoutedReg) (v : Word) :
    (s.writeReg r v).base = s.base := by unfold State.writeReg; split <;> rfl
@[simp] theorem State.writeReg_halt (r : RoutedReg) (v : Word) :
    (s.writeReg r v).halt = s.halt := by unfold State.writeReg; split <;> rfl
@[simp] theorem State.writeReg_fcode (r : RoutedReg) (v : Word) :
    (s.writeReg r v).fcode = s.fcode := by unfold State.writeReg; split <;> rfl
@[simp] theorem State.writeReg_fcmd (r : RoutedReg) (v : Word) :
    (s.writeReg r v).fcmd = s.fcmd := by unfold State.writeReg; split <;> rfl
@[simp] theorem State.writeReg_cmd (r : RoutedReg) (v : Word) :
    (s.writeReg r v).cmd = s.cmd := by unfold State.writeReg; split <;> rfl
@[simp] theorem State.writeReg_opa (r : RoutedReg) (v : Word) :
    (s.writeReg r v).opa = s.opa := by unfold State.writeReg; split <;> rfl
@[simp] theorem State.writeReg_opb (r : RoutedReg) (v : Word) :
    (s.writeReg r v).opb = s.opb := by unfold State.writeReg; split <;> rfl
@[simp] theorem State.writeReg_res0 (r : RoutedReg) (v : Word) :
    (s.writeReg r v).res0 = s.res0 := by unfold State.writeReg; split <;> rfl
@[simp] theorem State.writeReg_res1 (r : RoutedReg) (v : Word) :
    (s.writeReg r v).res1 = s.res1 := by unfold State.writeReg; split <;> rfl
@[simp] theorem State.writeReg_stat (r : RoutedReg) (v : Word) :
    (s.writeReg r v).stat = s.stat := by unfold State.writeReg; split <;> rfl
@[simp] theorem State.writeReg_seq (r : RoutedReg) (v : Word) :
    (s.writeReg r v).seq = s.seq := by unfold State.writeReg; split <;> rfl
@[simp] theorem State.writeReg_inputs (r : RoutedReg) (v : Word) :
    (s.writeReg r v).inputs = s.inputs := by unfold State.writeReg; split <;> rfl
@[simp] theorem State.writeReg_answers (r : RoutedReg) (v : Word) :
    (s.writeReg r v).answers = s.answers := by unfold State.writeReg; split <;> rfl
@[simp] theorem State.writeReg_reads (r : RoutedReg) (v : Word) :
    (s.writeReg r v).reads = s.reads := by unfold State.writeReg; split <;> rfl
@[simp] theorem State.writeReg_config (r : RoutedReg) (v : Word) :
    (s.writeReg r v).config = s.config := by unfold State.writeReg; split <;> rfl

/-! ### readReg: only the trace and the answers change -/

@[simp] theorem State.readReg_mode (r : RoutedReg) :
    (s.readReg r).2.mode = s.mode := by unfold State.readReg; split <;> rfl
@[simp] theorem State.readReg_base (r : RoutedReg) :
    (s.readReg r).2.base = s.base := by unfold State.readReg; split <;> rfl
@[simp] theorem State.readReg_halt (r : RoutedReg) :
    (s.readReg r).2.halt = s.halt := by unfold State.readReg; split <;> rfl
@[simp] theorem State.readReg_fcode (r : RoutedReg) :
    (s.readReg r).2.fcode = s.fcode := by unfold State.readReg; split <;> rfl
@[simp] theorem State.readReg_fcmd (r : RoutedReg) :
    (s.readReg r).2.fcmd = s.fcmd := by unfold State.readReg; split <;> rfl
@[simp] theorem State.readReg_cmd (r : RoutedReg) :
    (s.readReg r).2.cmd = s.cmd := by unfold State.readReg; split <;> rfl
@[simp] theorem State.readReg_opa (r : RoutedReg) :
    (s.readReg r).2.opa = s.opa := by unfold State.readReg; split <;> rfl
@[simp] theorem State.readReg_opb (r : RoutedReg) :
    (s.readReg r).2.opb = s.opb := by unfold State.readReg; split <;> rfl
@[simp] theorem State.readReg_res0 (r : RoutedReg) :
    (s.readReg r).2.res0 = s.res0 := by unfold State.readReg; split <;> rfl
@[simp] theorem State.readReg_res1 (r : RoutedReg) :
    (s.readReg r).2.res1 = s.res1 := by unfold State.readReg; split <;> rfl
@[simp] theorem State.readReg_stat (r : RoutedReg) :
    (s.readReg r).2.stat = s.stat := by unfold State.readReg; split <;> rfl
@[simp] theorem State.readReg_seq (r : RoutedReg) :
    (s.readReg r).2.seq = s.seq := by unfold State.readReg; split <;> rfl
@[simp] theorem State.readReg_inputs (r : RoutedReg) :
    (s.readReg r).2.inputs = s.inputs := by unfold State.readReg; split <;> rfl
@[simp] theorem State.readReg_answers (r : RoutedReg) :
    (s.readReg r).2.answers = s.answers.tail := by unfold State.readReg; split <;> rfl
@[simp] theorem State.readReg_reads (r : RoutedReg) :
    (s.readReg r).2.reads = s.reads + 1 := by unfold State.readReg; split <;> rfl
@[simp] theorem State.readReg_config (r : RoutedReg) :
    (s.readReg r).2.config = s.config := by unfold State.readReg; split <;> rfl

end Sys2Proof.Machine
end

