-- ==== Sys2Proof/Laws/Ops.lean ====
section
/-! SUPPORT. One lemma per shared operation that says everything it can do; the provers cite these
instead of unfolding the operation. -/

namespace Sys2Proof.Machine

/-! ### Checks and the conclusion of a command -/

theorem raiseIf_of {p : Prop} [Decidable p] (h : p) (c : FatalCode) : raiseIf p c = .error c := by
  simp [raiseIf, h]

theorem raiseIf_of_not {p : Prop} [Decidable p] (h : ¬ p) (c : FatalCode) :
    raiseIf p c = .ok () := by
  simp [raiseIf, h]

/-- A check followed by the rest of a command: the first check that fails is the one reported. -/
theorem raiseIf_bind {α : Type} (p : Prop) [Decidable p] (c : FatalCode)
    (k : Unit → Except FatalCode α) :
    (raiseIf p c >>= k) = if p then .error c else k () := by
  by_cases h : p <;> simp [raiseIf, h, bind, Except.bind]

@[simp] theorem State.conclude_ok (s s' : State) : s.conclude (.ok s') = .next s' := rfl

@[simp] theorem State.conclude_error (s : State) (c : FatalCode) :
    s.conclude (.error c) = .next (s.raiseFatal c) := rfl

/-- Everything the conclusion of a command can be: the completed state, or the fatal entry. -/
theorem State.conclude_cases (s : State) (e : Except FatalCode State) :
    (∃ s', e = .ok s' ∧ s.conclude e = .next s') ∨
    (∃ c, e = .error c ∧ s.conclude e = .next (s.raiseFatal c)) := by
  cases e with
  | ok s' => exact .inl ⟨s', rfl, rfl⟩
  | error c => exact .inr ⟨c, rfl, rfl⟩

/-! ### The base pointer -/

/-- Its bits are those of the two operand words below the configured width, `OPB` in the upper half. -/
theorem State.basePointer_getLsbD (s : State) (i : Nat) :
    s.basePointer.getLsbD i =
      (decide (i < s.config.baseWidth.val) && (s.opb ++ s.opa).getLsbD i) := by
  rw [State.basePointer, State.operand64, concat_eq_append, BitVec.getLsbD_setWidth,
    BitVec.getLsbD_setWidth]
  by_cases h : i < 64
  · rw [decide_eq_true h, Bool.true_and]
  · have hw := s.config.baseWidth.isLt
    rw [decide_eq_false h, decide_eq_false (show ¬ i < s.config.baseWidth.val by omega),
      Bool.false_and, Bool.false_and]

/-- With the default width it is both operand words. -/
theorem State.basePointer_of_default {s : State} (h : s.config.baseWidth = 64) :
    s.basePointer = s.opb ++ s.opa := by
  apply BitVec.eq_of_getLsbD_eq
  intro i hi
  rw [State.basePointer_getLsbD, h]
  exact Bool.and_eq_right_iff_imp.2 fun _ => decide_eq_true hi

/-- It has no bit above the configured width. -/
theorem State.basePointer_toNat_lt (s : State) :
    s.basePointer.toNat < 2 ^ s.config.baseWidth.val := by
  rw [State.basePointer, BitVec.toNat_setWidth]
  exact lt_of_le_of_lt (Nat.mod_le _ _) (BitVec.isLt _)

/-! ### Transactions -/

theorem State.answer_of_cons {s : State} {a : DWord} {rest : List DWord}
    (h : s.answers = a :: rest) : s.answer = a := by
  simp [State.answer, h]

theorem State.answer_of_nil {s : State} (h : s.answers = []) :
    s.answer = Config.freeAnswer s.reads := by
  simp [State.answer, h]

/-- A read in x2APIC mode: one MSR read, the low 32 bits of the answer (44_mode_dispatch R214). -/
theorem State.readReg_x2apic {s : State} (h : s.mode = .x2apic) (r : RoutedReg) :
    s.readReg r =
      (s.answer.setWidth 32, (s.emit (.msrRead (s.config.msr r))).takeAnswer) := by
  simp [State.readReg, State.msrRead, h]

/-- A read in any other mode: one memory read (20_memory R56). -/
theorem State.readReg_memory {s : State} (h : s.mode ≠ .x2apic) (r : RoutedReg) :
    s.readReg r =
      (s.answer.setWidth 32, (s.emit (.memRead (s.pageAddr (s.config.off r)))).takeAnswer) := by
  simp [State.readReg, State.memRead, h]

theorem State.readReg_trace (s : State) (r : RoutedReg) :
    (s.readReg r).2.trace =
      s.trace ++ [if s.mode = .x2apic then .msrRead (s.config.msr r)
        else .memRead (s.pageAddr (s.config.off r))] := by
  unfold State.readReg
  split <;> simp [State.msrRead, State.memRead]

theorem State.writeReg_x2apic {s : State} (h : s.mode = .x2apic) (r : RoutedReg) (v : Word) :
    s.writeReg r v = s.emit (.msrWrite (s.config.msr r) (v.setWidth 64)) := by
  simp [State.writeReg, State.msrWrite, h]

theorem State.writeReg_memory {s : State} (h : s.mode ≠ .x2apic) (r : RoutedReg) (v : Word) :
    s.writeReg r v = s.emit (.memWrite (s.pageAddr (s.config.off r)) v) := by
  simp [State.writeReg, State.memWrite, h]

theorem State.writeReg_trace (s : State) (r : RoutedReg) (v : Word) :
    (s.writeReg r v).trace =
      s.trace ++ [if s.mode = .x2apic then .msrWrite (s.config.msr r) (v.setWidth 64)
        else .memWrite (s.pageAddr (s.config.off r)) v] := by
  unfold State.writeReg
  split <;> simp

/-! ### Routing -/

/-- All that routing can answer (44_mode_dispatch R216). -/
theorem route_cases (r : LogicalReg) :
    (∃ rr, r.routed = some rr ∧ route r = .ok rr) ∨
    (r.routed = none ∧ route r = .error .unimplemented) := by
  cases h : r.routed with
  | none => exact .inr ⟨rfl, by simp [route, h]⟩
  | some rr => exact .inl ⟨rr, rfl, by simp [route, h]⟩

theorem requireMode_of_selected {s : State} (h : s.mode ≠ .unsel) : requireMode s = .ok () := by
  simp [requireMode, raiseIf, h]

theorem requireMode_of_unsel {s : State} (h : s.mode = .unsel) :
    requireMode s = .error .modeNotSelected := by
  simp [requireMode, raiseIf, h]

/-! ### Taking the host's input, and the step -/

theorem State.takeInput_of_nil {s : State} (h : s.inputs = []) : s.takeInput = none := by
  simp [State.takeInput, h]

theorem State.takeInput_of_cons {s : State} {i : HostInput} {rest : List HostInput}
    (h : s.inputs = i :: rest) : s.takeInput = some (i, { s with inputs := rest }) := by
  simp [State.takeInput, h]

/-- Everything a step can do when it answers a next state: the host applied reset, or its command was
refused, or the word was illegal, or the command was executed. -/
theorem step_cases {s s' : State} (h : step s = .next s') :
    (∃ rest, s.inputs = .reset :: rest ∧ s' = ({ s with inputs := rest } : State).applyReset) ∨
    (∃ c rest, s.inputs = .command c :: rest ∧ s.halt = true ∧
      s' = ({ s with inputs := rest } : State).refuse) ∨
    (∃ c rest e, s.inputs = .command c :: rest ∧ s.halt = false ∧ decode c.cmd = .error e ∧
      s' = (({ s with inputs := rest } : State).sample c).raiseFatal .illegalCommand) ∨
    (∃ c rest i, s.inputs = .command c :: rest ∧ s.halt = false ∧ decode c.cmd = .ok i ∧
      exec i (({ s with inputs := rest } : State).sample c) = .next s') := by
  cases hin : s.inputs with
  | nil => simp [step, State.takeInput_of_nil hin] at h
  | cons i rest =>
    cases i with
    | reset =>
      simp only [step, State.takeInput_of_cons hin, Host.Outcome.next.injEq] at h
      exact .inl ⟨rest, rfl, h.symm⟩
    | command c =>
      simp only [step, State.takeInput_of_cons hin] at h
      cases hh : s.halt with
      | true =>
        simp only [hh, if_true, Host.Outcome.next.injEq] at h
        exact .inr (.inl ⟨c, rest, rfl, rfl, h.symm⟩)
      | false =>
        simp only [hh, Bool.false_eq_true, if_false] at h
        cases hd : decode c.cmd with
        | error e =>
          simp only [hd, Host.Outcome.next.injEq] at h
          exact .inr (.inr (.inl ⟨c, rest, e, rfl, rfl, hd, h.symm⟩))
        | ok i =>
          simp only [hd] at h
          exact .inr (.inr (.inr ⟨c, rest, i, rfl, rfl, hd, h⟩))

end Sys2Proof.Machine
end

