-- ==== Sys2Proof/Laws/PerInstr.lean ====
section
/-! SUPPORT. The family of statements made per instruction: every command's word has the opcode of its row
in 30_encoding R87 and only zeros in the must-be-zero bits of its format (R88). -/

namespace Sys2Proof.Laws.Matches

open Sys2Proof

/-- The row of an instruction in the opcode map (30_encoding R87): its opcode and its format's mask. -/
def row : Instr → Byte × Word
  | .modeSelect _ => (0x01, maskI)
  | .verVersion => (0x10, maskZ)
  | .verMaxlvt => (0x11, maskZ)
  | .verEoisup => (0x12, maskZ)
  | .esrDec => (0x14, maskZ)
  | .esrTest _ => (0x15, maskI)
  | .esrUnion => (0x16, maskZ)
  | .tdcEnc _ => (0x18, maskI)
  | .tdcDec => (0x19, maskZ)
  | .abaseEn => (0x1C, maskZ)
  | .abaseX2 => (0x1D, maskZ)
  | .abaseAddr => (0x1E, maskZ)
  | .lvtGetvec _ => (0x20, maskS)
  | .lvtSetvec _ _ => (0x21, maskSI)
  | .lvtGetds _ => (0x22, maskS)
  | .lvtGetmask _ => (0x23, maskS)
  | .lvtSetmask _ _ => (0x24, maskSI)
  | .lvtGetdm _ => (0x25, maskS)
  | .lvtSetdm _ _ => (0x26, maskSI)
  | .lvtGettm _ => (0x27, maskS)
  | .lvtSettm _ _ => (0x28, maskSI)
  | .icrBuild _ => (0x30, maskC)
  | .icrInit => (0x31, maskZ)
  | .icrSipi _ => (0x32, maskI)
  | .icrGetvec => (0x34, maskZ)
  | .icrGetdm => (0x35, maskZ)
  | .icrGetdstm => (0x36, maskZ)
  | .icrGettrig => (0x37, maskZ)
  | .icrGetasrt => (0x38, maskZ)
  | .icrGetdest => (0x39, maskZ)
  | .regRd _ => (0x40, maskS)
  | .regWr _ => (0x41, maskS)
  | .esrClr => (0x42, maskZ)
  | .icrSend => (0x43, maskZ)
  | .eoi => (0x44, maskZ)

/-- The word of an instruction has the opcode of its row and is clear in its must-be-zero bits. -/
def Statement (i : Instr) : Prop :=
  opField (encode i) = (row i).1 ∧ reservedClear (row i).2 (encode i) = true

theorem modeSelect (m : Backend) : Statement (.modeSelect m) :=
  ⟨opField_encodeI .., reservedClear_encodeI ..⟩

theorem verVersion : Statement (.verVersion) :=
  ⟨opField_encodeZ .., reservedClear_encodeZ ..⟩

theorem verMaxlvt : Statement (.verMaxlvt) :=
  ⟨opField_encodeZ .., reservedClear_encodeZ ..⟩

theorem verEoisup : Statement (.verEoisup) :=
  ⟨opField_encodeZ .., reservedClear_encodeZ ..⟩

theorem esrDec : Statement (.esrDec) :=
  ⟨opField_encodeZ .., reservedClear_encodeZ ..⟩

theorem esrTest (i : Fin 8) : Statement (.esrTest i) :=
  ⟨opField_encodeI .., reservedClear_encodeI ..⟩

theorem esrUnion : Statement (.esrUnion) :=
  ⟨opField_encodeZ .., reservedClear_encodeZ ..⟩

theorem tdcEnc (e : Fin 8) : Statement (.tdcEnc e) :=
  ⟨opField_encodeI .., reservedClear_encodeI ..⟩

theorem tdcDec : Statement (.tdcDec) :=
  ⟨opField_encodeZ .., reservedClear_encodeZ ..⟩

theorem abaseEn : Statement (.abaseEn) :=
  ⟨opField_encodeZ .., reservedClear_encodeZ ..⟩

theorem abaseX2 : Statement (.abaseX2) :=
  ⟨opField_encodeZ .., reservedClear_encodeZ ..⟩

theorem abaseAddr : Statement (.abaseAddr) :=
  ⟨opField_encodeZ .., reservedClear_encodeZ ..⟩

theorem lvtGetvec (k : LvtKind) : Statement (.lvtGetvec k) :=
  ⟨opField_encodeS .., reservedClear_encodeS ..⟩

theorem lvtSetvec (k : LvtKind) (v : Byte) : Statement (.lvtSetvec k v) :=
  ⟨opField_encodeSI .., reservedClear_encodeSI ..⟩

theorem lvtGetds (k : LvtKind) : Statement (.lvtGetds k) :=
  ⟨opField_encodeS .., reservedClear_encodeS ..⟩

theorem lvtGetmask (k : LvtKind) : Statement (.lvtGetmask k) :=
  ⟨opField_encodeS .., reservedClear_encodeS ..⟩

theorem lvtSetmask (k : LvtKind) (m : Bool) : Statement (.lvtSetmask k m) :=
  ⟨opField_encodeSI .., reservedClear_encodeSI ..⟩

theorem lvtGetdm (k : LvtKind) : Statement (.lvtGetdm k) :=
  ⟨opField_encodeS .., reservedClear_encodeS ..⟩

theorem lvtSetdm (k : LvtKind) (d : DeliveryMode) : Statement (.lvtSetdm k d) :=
  ⟨opField_encodeSI .., reservedClear_encodeSI ..⟩

theorem lvtGettm (k : LvtKind) : Statement (.lvtGettm k) :=
  ⟨opField_encodeS .., reservedClear_encodeS ..⟩

theorem lvtSettm (k : LvtKind) (t : TimerMode) : Statement (.lvtSettm k t) :=
  ⟨opField_encodeSI .., reservedClear_encodeSI ..⟩

theorem icrBuild (d : IcrDescription) : Statement (.icrBuild d) :=
  ⟨opField_encodeC .., reservedClear_encodeC ..⟩

theorem icrInit : Statement (.icrInit) :=
  ⟨opField_encodeZ .., reservedClear_encodeZ ..⟩

theorem icrSipi (v : Byte) : Statement (.icrSipi v) :=
  ⟨opField_encodeI .., reservedClear_encodeI ..⟩

theorem icrGetvec : Statement (.icrGetvec) :=
  ⟨opField_encodeZ .., reservedClear_encodeZ ..⟩

theorem icrGetdm : Statement (.icrGetdm) :=
  ⟨opField_encodeZ .., reservedClear_encodeZ ..⟩

theorem icrGetdstm : Statement (.icrGetdstm) :=
  ⟨opField_encodeZ .., reservedClear_encodeZ ..⟩

theorem icrGettrig : Statement (.icrGettrig) :=
  ⟨opField_encodeZ .., reservedClear_encodeZ ..⟩

theorem icrGetasrt : Statement (.icrGetasrt) :=
  ⟨opField_encodeZ .., reservedClear_encodeZ ..⟩

theorem icrGetdest : Statement (.icrGetdest) :=
  ⟨opField_encodeZ .., reservedClear_encodeZ ..⟩

theorem regRd (r : LogicalReg) : Statement (.regRd r) :=
  ⟨opField_encodeS .., reservedClear_encodeS ..⟩

theorem regWr (r : LogicalReg) : Statement (.regWr r) :=
  ⟨opField_encodeS .., reservedClear_encodeS ..⟩

theorem esrClr : Statement (.esrClr) :=
  ⟨opField_encodeZ .., reservedClear_encodeZ ..⟩

theorem icrSend : Statement (.icrSend) :=
  ⟨opField_encodeZ .., reservedClear_encodeZ ..⟩

theorem eoi : Statement (.eoi) :=
  ⟨opField_encodeZ .., reservedClear_encodeZ ..⟩

end Sys2Proof.Laws.Matches
end

