-- ==== Sys2Proof/Machine/Assembly.lean ====
section
/-! DEFINITION. The notation of 30_encoding R98 and the pseudo-commands of R99. They are text and aliases
of command words; the machine does not read them. -/

namespace Sys2Proof

/-! ### Names (10_state R29, R35; 30_encoding R98) -/

/-- The kind names of 10_state R35. -/
def LvtKind.name : LvtKind → String
  | .timer => "Timer"
  | .cmci => "CMCI"
  | .lint0 => "LINT0"
  | .lint1 => "LINT1"
  | .error => "Error"
  | .performanceMonitors => "PerformanceMonitors"
  | .thermalSensor => "ThermalSensor"

/-- The register names of 10_state R29. -/
def LogicalReg.name : LogicalReg → String
  | .id => "ID"
  | .version => "VERSION"
  | .tpr => "TPR"
  | .apr => "APR"
  | .ppr => "PPR"
  | .eoi => "EOI"
  | .rrd => "RRD"
  | .ldr => "LDR"
  | .esr => "ESR"
  | .lvtCmci => "LVT_CMCI"
  | .icr => "ICR"
  | .lvtTimer => "LVT_TIMER"
  | .lvtThermal => "LVT_THERMAL"
  | .lvtPerf => "LVT_PERF"
  | .lvtLint0 => "LVT_LINT0"
  | .lvtLint1 => "LVT_LINT1"
  | .lvtError => "LVT_ERROR"
  | .tic => "TIC"
  | .tcc => "TCC"
  | .tdc => "TDC"

/-- The names of the `dm` field of `ICR.BUILD` (30_encoding R98). -/
def DeliveryMode.name : DeliveryMode → String
  | .fixed => "fixed"
  | .lowPriority => "lowpri"
  | .systemManagement => "smi"
  | .nonMaskable => "nmi"
  | .init => "init"
  | .startUp => "startup"
  | .external => "extint"

/-- The names of the `dest` field of `ICR.BUILD` (30_encoding R98). -/
def DestinationKind.name : DestinationKind → String
  | .explicitId => "id"
  | .selfOnly => "self"
  | .allIncludingSelf => "all"
  | .allExcludingSelf => "others"

/-- The named fields of `ICR.BUILD` (30_encoding R98). -/
def IcrDescription.assembler (d : IcrDescription) : String :=
  "vec=" ++ (if d.vp then toString d.vec.toNat else "none")
    ++ ", dest=" ++ d.dkind.name
    ++ ", dm=" ++ d.dm.name
    ++ ", dstm=" ++ (if d.dstm.bit then "log" else "phys")
    ++ ", trig=" ++ (if d.trig.bit then "level" else "edge")
    ++ ", lvl=" ++ (if d.asrt.bit then "assert" else "deassert")

/-- A kind and an immediate, separated by a comma (30_encoding R98). -/
def selImm (k : LvtKind) (imm : Nat) : String :=
  k.name ++ ", " ++ toString imm

/-- A command in the notation of 30_encoding R98, immediates in decimal (log 20). -/
def Instr.assembler : Instr → String
  | .modeSelect m => "MODE.SELECT " ++ toString m.code.toNat
  | .verVersion => "VER.VERSION"
  | .verMaxlvt => "VER.MAXLVT"
  | .verEoisup => "VER.EOISUP"
  | .esrDec => "ESR.DEC"
  | .esrTest i => "ESR.TEST " ++ toString i.val
  | .esrUnion => "ESR.UNION"
  | .tdcEnc e => "TDC.ENC " ++ toString e.val
  | .tdcDec => "TDC.DEC"
  | .abaseEn => "ABASE.EN"
  | .abaseX2 => "ABASE.X2"
  | .abaseAddr => "ABASE.ADDR"
  | .lvtGetvec k => "LVT.GETVEC " ++ k.name
  | .lvtSetvec k v => "LVT.SETVEC " ++ selImm k v.toNat
  | .lvtGetds k => "LVT.GETDS " ++ k.name
  | .lvtGetmask k => "LVT.GETMASK " ++ k.name
  | .lvtSetmask k m => "LVT.SETMASK " ++ selImm k m.toNat
  | .lvtGetdm k => "LVT.GETDM " ++ k.name
  | .lvtSetdm k d => "LVT.SETDM " ++ selImm k d.code.toNat
  | .lvtGettm k => "LVT.GETTM " ++ k.name
  | .lvtSettm k t => "LVT.SETTM " ++ selImm k t.code.toNat
  | .icrBuild d => "ICR.BUILD " ++ d.assembler
  | .icrInit => "ICR.INIT"
  | .icrSipi v => "ICR.SIPI " ++ toString v.toNat
  | .icrGetvec => "ICR.GETVEC"
  | .icrGetdm => "ICR.GETDM"
  | .icrGetdstm => "ICR.GETDSTM"
  | .icrGettrig => "ICR.GETTRIG"
  | .icrGetasrt => "ICR.GETASRT"
  | .icrGetdest => "ICR.GETDEST"
  | .regRd r => "REG.RD " ++ r.name
  | .regWr r => "REG.WR " ++ r.name
  | .esrClr => "ESR.CLR"
  | .icrSend => "ICR.SEND"
  | .eoi => "EOI"

/-! ### Pseudo-commands (30_encoding R99), each an exact alias of one command -/

/-- `LVT.MASK k` -/
def pseudoLvtMask (k : LvtKind) : Instr := .lvtSetmask k true

/-- `LVT.UNMASK k` -/
def pseudoLvtUnmask (k : LvtKind) : Instr := .lvtSetmask k false

/-- `LVT.RD k` -/
def pseudoLvtRd (k : LvtKind) : Instr := .regRd k.register

/-- `LVT.WR k` -/
def pseudoLvtWr (k : LvtKind) : Instr := .regWr k.register

/-- `TDC.ENC.DIV n`, for the eight divisors `n = 2^e`; any other number spells no command. -/
def pseudoTdcEncDiv (n : Nat) : Option Instr :=
  match n with
  | 1 => some (.tdcEnc 0)
  | 2 => some (.tdcEnc 1)
  | 4 => some (.tdcEnc 2)
  | 8 => some (.tdcEnc 3)
  | 16 => some (.tdcEnc 4)
  | 32 => some (.tdcEnc 5)
  | 64 => some (.tdcEnc 6)
  | 128 => some (.tdcEnc 7)
  | _ => none

/-- `ID.RD` -/
def pseudoIdRd : Instr := .regRd .id

/-- `VER.RD` -/
def pseudoVerRd : Instr := .regRd .version

/-- `ESR.RD` -/
def pseudoEsrRd : Instr := .regRd .esr

end Sys2Proof
end

