-- ==== Sys2Proof/Tests/Slice0.lean ====
section
/-! SUPPORT. The model's own tests. Every expected value is written from the spec: the encoding rules of
30_encoding, its examples (R100), and the rows of 95_test_vectors. The witnesses at the end meet the
hypotheses of the statements in Certificates/Slice0/Obligations.lean, clause by clause. -/

namespace Sys2Proof.Tests

open Sys2Proof Sys2Proof.Machine

/-! ### Helpers -/

/-- The next state, where there is one. -/
def got : Result → Option State
  | .next t => some t
  | .fault _ => none
  | .refused _ => none

/-- The state whose next input is this command. -/
def presenting (s : State) (cmd opa opb : Word) : State :=
  { s with inputs := [.command { cmd := cmd, opa := opa, opb := opb }] }

/-- What the ports carry after one step. -/
def ports (s : State) (cmd opa opb : Word) : Option (Option Stat × Option Word × Option Word) :=
  (got (step (presenting s cmd opa opb))).map fun t => (t.stat, t.res0, t.res1)

/-- The ports of a command that completes `OK`. -/
def done (r0 r1 : Word) : Option (Option Stat × Option Word × Option Word) :=
  some (some .ok, some r0, some r1)

/-- The ports of a fatal. -/
def fatal (code : Byte) : Option (Option Stat × Option Word × Option Word) :=
  some (some (.fatal code), none, none)

/-- The transactions of one step. -/
def trace (s : State) (cmd opa opb : Word) : Option (List Transaction) :=
  (got (step (presenting s cmd opa opb))).map State.trace

/-- After `MODE.SELECT 1`. -/
def x2 : State := { State.reset with mode := .x2apic }

/-- After `MODE.SELECT 0` with the pointer of 95_test_vectors. -/
def xa : State := { State.reset with mode := .xapic, base := 0xFFFF8000FEE00000 }

/-- A run whose downstream APIC answers the next read with this value. -/
def answering (s : State) (a : DWord) : State := { s with answers := [a] }

/-- A halted block, as after step 2 of table T7. -/
def halted : State :=
  { x2 with halt := true, fcode := 0x34, fcmd := 0x00000141, stat := some (.fatal 0x34), seq := 2 }

/-- A description: the INIT level-deassert of R100. -/
def initDeassert : IcrDescription :=
  { vp := false, dm := .init, dstm := .physical, trig := .level, asrt := .deassert, vec := 0,
    dkind := .allIncludingSelf }

/-- A description: the plain fixed interrupt of table T4. -/
def plainFixed : IcrDescription :=
  { vp := true, dm := .fixed, dstm := .physical, trig := .edge, asrt := .assert, vec := 0x40,
    dkind := .explicitId }

/-! ### Well-formedness: the one check, and an ill-formed term it refuses (30_encoding R84) -/

theorem test_wellFormed_accepts : (Instr.icrBuild plainFixed).wellFormed = true := by decide

theorem test_wellFormed_refuses_vector_without_presence :
    (Instr.icrBuild { plainFixed with vp := false }).wellFormed = false := by decide

theorem test_config_wf_refuses_odd_offset :
    Config.wf { Config.default with regMap := { RegMap.default with icrHighOff := 0x308 } } = false := by
  decide

/-! ### Decoding: every constructor, the word written from 30_encoding R81 and R87 -/

theorem test_decode_modeSelect : decode 0x00010001#32 = .ok (.modeSelect .x2apic) := by decide
theorem test_decode_verVersion : decode 0x00000010#32 = .ok .verVersion := by decide
theorem test_decode_verMaxlvt : decode 0x00000011#32 = .ok .verMaxlvt := by decide
theorem test_decode_verEoisup : decode 0x00000012#32 = .ok .verEoisup := by decide
theorem test_decode_esrDec : decode 0x00000014#32 = .ok .esrDec := by decide
theorem test_decode_esrTest : decode 0x00050015#32 = .ok (.esrTest 5) := by decide
theorem test_decode_esrUnion : decode 0x00000016#32 = .ok .esrUnion := by decide
theorem test_decode_tdcEnc : decode 0x00040018#32 = .ok (.tdcEnc 4) := by decide
theorem test_decode_tdcDec : decode 0x00000019#32 = .ok .tdcDec := by decide
theorem test_decode_abaseEn : decode 0x0000001C#32 = .ok .abaseEn := by decide
theorem test_decode_abaseX2 : decode 0x0000001D#32 = .ok .abaseX2 := by decide
theorem test_decode_abaseAddr : decode 0x0000001E#32 = .ok .abaseAddr := by decide
theorem test_decode_lvtGetvec : decode 0x00000620#32 = .ok (.lvtGetvec .thermalSensor) := by decide
theorem test_decode_lvtSetvec : decode 0x00310121#32 = .ok (.lvtSetvec .cmci 0x31) := by decide
theorem test_decode_lvtGetds : decode 0x00000322#32 = .ok (.lvtGetds .lint1) := by decide
theorem test_decode_lvtGetmask :
    decode 0x00000523#32 = .ok (.lvtGetmask .performanceMonitors) := by decide
theorem test_decode_lvtSetmask : decode 0x00010224#32 = .ok (.lvtSetmask .lint0 true) := by decide
theorem test_decode_lvtGetdm : decode 0x00000425#32 = .ok (.lvtGetdm .error) := by decide
theorem test_decode_lvtSetdm :
    decode 0x00040626#32 = .ok (.lvtSetdm .thermalSensor .nonMaskable) := by decide
theorem test_decode_lvtGettm : decode 0x00000027#32 = .ok (.lvtGettm .timer) := by decide
theorem test_decode_lvtSettm : decode 0x00020128#32 = .ok (.lvtSettm .cmci .tscDeadline) := by decide
theorem test_decode_icrBuild : decode 0x02002A30#32 = .ok (.icrBuild initDeassert) := by decide
theorem test_decode_icrBuild_fields :
    decode 0x03FF7130#32 = .ok (.icrBuild
      { vp := true, dm := .fixed, dstm := .logical, trig := .level, asrt := .assert, vec := 0xFF,
        dkind := .allExcludingSelf }) := by decide
theorem test_decode_icrInit : decode 0x00000031#32 = .ok .icrInit := by decide
theorem test_decode_icrSipi : decode 0x00FF0032#32 = .ok (.icrSipi 0xFF) := by decide
theorem test_decode_icrGetvec : decode 0x00000034#32 = .ok .icrGetvec := by decide
theorem test_decode_icrGetdm : decode 0x00000035#32 = .ok .icrGetdm := by decide
theorem test_decode_icrGetdstm : decode 0x00000036#32 = .ok .icrGetdstm := by decide
theorem test_decode_icrGettrig : decode 0x00000037#32 = .ok .icrGettrig := by decide
theorem test_decode_icrGetasrt : decode 0x00000038#32 = .ok .icrGetasrt := by decide
theorem test_decode_icrGetdest : decode 0x00000039#32 = .ok .icrGetdest := by decide
theorem test_decode_regRd : decode 0x00001340#32 = .ok (.regRd .tdc) := by decide
theorem test_decode_regWr : decode 0x00000B41#32 = .ok (.regWr .lvtTimer) := by decide
theorem test_decode_esrClr : decode 0x00000042#32 = .ok .esrClr := by decide
theorem test_decode_icrSend : decode 0x00000043#32 = .ok .icrSend := by decide
theorem test_decode_eoi : decode 0x00000044#32 = .ok .eoi := by decide

/-! ### Illegal words, each for the reason table T0 gives -/

theorem test_decode_rejects_opcode :
    decode 0x00000000#32 = .error .undefinedOpcode ∧ decode 0x00000013#32 = .error .undefinedOpcode ∧
    decode 0x00000033#32 = .error .undefinedOpcode ∧ decode 0x00000045#32 = .error .undefinedOpcode ∧
    decode 0xFFFFFFFF#32 = .error .undefinedOpcode := by decide

theorem test_decode_rejects_reserved :
    decode 0x00000144#32 = .error .reservedBits ∧ decode 0x00010044#32 = .error .reservedBits ∧
    decode 0x00000101#32 = .error .reservedBits ∧ decode 0x00002040#32 = .error .reservedBits ∧
    decode 0x01000032#32 = .error .reservedBits ∧ decode 0x0040C130#32 = .error .reservedBits ∧
    decode 0x04404130#32 = .error .reservedBits := by decide

theorem test_decode_rejects_select :
    decode 0x00001440#32 = .error .selectOutOfRange ∧ decode 0x00000720#32 = .error .selectOutOfRange ∧
    decode 0x00000820#32 = .error .selectOutOfRange := by decide

theorem test_decode_rejects_immediate :
    decode 0x00020001#32 = .error .immediateOutOfRange ∧
    decode 0x00030526#32 = .error .immediateOutOfRange ∧
    decode 0x00080526#32 = .error .immediateOutOfRange ∧
    decode 0x00030028#32 = .error .immediateOutOfRange ∧
    decode 0x00020124#32 = .error .immediateOutOfRange ∧
    decode 0x00080015#32 = .error .immediateOutOfRange ∧
    decode 0x00080018#32 = .error .immediateOutOfRange := by decide

theorem test_decode_rejects_description :
    decode 0x00404730#32 = .error .deliveryModeReserved ∧
    decode 0x00404030#32 = .error .vectorWithoutPresence := by decide

/-! ### The host's two definitions -/

theorem test_table_word : decodeTableWord 32 0x00000B40 = some (.regRd .lvtTimer) := by decide

theorem test_table_word_illegal : decodeTableWord 32 0x00000045 = none := by decide

theorem test_fetch_word_runs :
    (got (step (State.reset.withFetchWord 32 0x00040018))).map State.res0 = some (some 0x00000003) := by
  decide

theorem test_fetch_word_keeps_operands :
    (State.withFetchWord (presenting State.reset 0 7 9) 32 0x44).inputs =
      [.command { cmd := 0x44, opa := 7, opb := 9 }] := by decide

/-! ### Mode selection and dispatch (table T6) -/

theorem test_modeSelect_xapic :
    (got (step (presenting State.reset 0x00000001 0xFEE00000 0xFFFF8000))).map
      (fun t => (t.mode, t.base)) = some (.xapic, 0xFFFF8000FEE00000) := by decide

theorem test_modeSelect_misaligned :
    ports State.reset 0x00000001 0xFEE00800 0x00000000 = fatal 0x32 := by decide

theorem test_regRd_id_x2 :
    ports (answering x2 0xFFFFFFFF00000105) 0x00000040 0 0 = done 0x00000105 0 := by decide

theorem test_regRd_id_xapic :
    ports (answering xa 0x05FFFFFF) 0x00000040 0 0 = done 0x00000005 0 ∧
    trace (answering xa 0x05FFFFFF) 0x00000040 0 0 = some [.memRead 0xFFFF8000FEE00020] := by decide

theorem test_regWr_timer_deadline :
    trace xa 0x00000B41 0x00040020 0 = some [.memWrite 0xFFFF8000FEE00320 0x00040020, .fence] := by
  decide

theorem test_regWr_timer_other_modes :
    trace x2 0x00000B41 0x00060020 0 = some [.msrWrite 0x832 0x0000000000060020] ∧
    trace x2 0x00000C41 0x00040031 0 = some [.msrWrite 0x833 0x0000000000040031] := by decide

theorem test_esrClr : trace x2 0x00000042 0x12345678 0 = some [.msrWrite 0x828 0] := by decide

theorem test_eoi : trace xa 0x00000044 0 0 = some [.memWrite 0xFFFF8000FEE000B0 0] := by decide

theorem test_icrSend_split :
    trace x2 0x00000043 0x00004608 0x00000100 =
      some [.msrWrite 0x831 0x0000000000000100, .msrWrite 0x830 0x0000000000004608] := by decide

theorem test_icrSend_xapic :
    trace xa 0x00000043 0x00004608 0x000000FF =
      some [.memWrite 0xFFFF8000FEE00310 0xFF000000, .memWrite 0xFFFF8000FEE00300 0x00004608] := by
  decide

/-! ### Register value types (tables T1 and T2) -/

theorem test_verVersion : ports State.reset 0x00000010 0xFFFFFF15 0 = done 0x15 0 := by decide
theorem test_verMaxlvt : ports State.reset 0x00000011 0x01060015 0 = done 6 0 := by decide
theorem test_verEoisup : ports State.reset 0x00000012 0xFEFFFFFF 0 = done 0 0 := by decide
theorem test_esrDec : ports State.reset 0x00000014 0xFFFFFF20 0 = done 0x20 0 := by decide
theorem test_esrTest :
    ports State.reset 0x00050015 0x20 0 = done 1 0 ∧ ports State.reset 0x00040015 0x20 0 = done 0 0 := by
  decide
theorem test_esrUnion : ports State.reset 0x00000016 0x121 0x240 = done 0x61 0 := by decide
theorem test_tdcEnc :
    ports State.reset 0x00000018 0 0 = done 0xB 0 ∧ ports State.reset 0x00050018 0 0 = done 0x8 0 := by
  decide
theorem test_tdcDec :
    ports State.reset 0x00000019 0x80000008 0 = done 5 32 ∧
    ports State.reset 0x00000019 0xFFFFFFF4 0 = done 1 2 := by decide
theorem test_abaseEn : ports State.reset 0x0000001C 0xFFFFF7FF 0xFFFFFFFF = done 0 0 := by decide
theorem test_abaseX2 : ports State.reset 0x0000001D 0x00000400 0 = done 1 0 := by decide
theorem test_abaseAddr :
    ports State.reset 0x0000001E 0xFFFFFFFF 0xFFFFFFFF = done 0xFFFFF000 0x0000000F := by decide

/-! ### Local vector table (table T3) -/

theorem test_lvtGetvec :
    ports State.reset 0x00000020 0x00000010 0 = done 0x10 0 ∧
    ports State.reset 0x00000020 0x0000000F 0 = fatal 0x11 := by decide
theorem test_lvtSetvec :
    ports State.reset 0x00310121 0x00001005 0 = done 0x00001031 0 ∧
    ports State.reset 0x000F0621 0x00000030 0 = fatal 0x10 := by decide
theorem test_lvtGetds : ports State.reset 0x00000322 0xFFFFEFFF 0 = done 0 0 := by decide
theorem test_lvtGetmask : ports State.reset 0x00000523 0xFFFEFFFF 0 = done 0 0 := by decide
theorem test_lvtSetmask : ports State.reset 0x00000224 0xFFFFFFFF 0 = done 0xFFFEFFFF 0 := by decide
theorem test_lvtGetdm :
    ports State.reset 0x00000525 0x00000700 0 = done 7 0 ∧
    ports State.reset 0x00000025 0x00000300 0 = fatal 0x02 := by decide
theorem test_lvtSetdm : ports State.reset 0x00050626 0xFFFFFFFF 0 = done 0xFFFFFDFF 0 := by decide
theorem test_lvtGettm : ports State.reset 0x00000027 0x00060000 0 = fatal 0x03 := by decide
theorem test_lvtSettm : ports State.reset 0x00010028 0xFFFFFFFF 0 = done 0xFFFBFFFF 0 := by decide

/-! ### Interrupt commands (tables T4 and T5) -/

theorem test_icrBuild : ports State.reset 0x03FF7130 0xDEADBEEF 0 = done 0x000CC8FF 0 := by decide
theorem test_icrBuild_first_rule :
    ports State.reset 0x00000030 0 0 = fatal 0x20 ∧ ports State.reset 0x00400B30 0 0 = fatal 0x21 ∧
    ports State.reset 0x00402B30 0 0 = fatal 0x22 := by decide
theorem test_icrInit : ports State.reset 0x00000031 0xFFFFFFFF 0 = done 0x0000C500 0xFFFFFFFF := by decide
theorem test_icrSipi : ports State.reset 0x000F0032 5 0 = done 0x0000460F 5 := by decide
theorem test_icrGetvec : ports State.reset 0x00000034 0x00004233 9 = done 0 0 := by decide
theorem test_icrGetdm : ports State.reset 0x00000035 0x00000300 0 = fatal 0x03 := by decide
theorem test_icrGetdstm : ports State.reset 0x00000036 0x000CC8FF 0 = done 1 0 := by decide
theorem test_icrGettrig : ports State.reset 0x00000037 0x00088500 0 = done 1 0 := by decide
theorem test_icrGetasrt : ports State.reset 0x00000038 0x00088500 0 = done 0 0 := by decide
theorem test_icrGetdest :
    ports State.reset 0x00000039 0x00004200 9 = done 0 9 ∧
    ports State.reset 0x00000039 0x000CC8FF 0x55 = done 3 0 := by decide

/-! ### Fatal entry, refusal, reset (table T7) -/

theorem test_fatal_entry :
    got (step (presenting x2 0x00000141 5 0)) = some { x2 with
      cmd := 0x00000141, opa := 5, opb := 0, halt := true, fcode := 0x34, fcmd := 0x00000141,
      stat := some (.fatal 0x34) } := by decide

theorem test_refusal_while_halted : got (step (presenting halted 0 0 0)) = some halted := by decide

theorem test_reset_restarts :
    (got (step { halted with inputs := [.reset] })).map (fun t => (t.halt, t.mode, t.seq, t.stat)) =
      some (false, .unsel, 0, none) := by decide

/-! ### Notation (30_encoding R98, R99) -/

theorem test_assembler_text :
    (Instr.lvtSetmask .timer true).assembler = "LVT.SETMASK Timer, 1" ∧
    (Instr.icrBuild initDeassert).assembler =
      "ICR.BUILD vec=none, dest=all, dm=init, dstm=phys, trig=level, lvl=deassert" := by decide

theorem test_pseudo_commands :
    pseudoLvtMask .lint0 = .lvtSetmask .lint0 true ∧ pseudoLvtRd .timer = .regRd .lvtTimer ∧
    pseudoTdcEncDiv 16 = some (.tdcEnc 4) ∧ pseudoTdcEncDiv 3 = none := by decide

/-! ### Witnesses: the hypotheses of each statement are met, each clause at a boundary of its range -/

/-- An xAPIC run after one end-of-interrupt. -/
def xaRun : State :=
  { xa with trace := [.memWrite 0xFFFF8000FEE000B0 0], seq := 1, stat := some .ok, res0 := some 0,
            res1 := some 0 }

/-- A state without the capability and without the debug checks. -/
def bare : State :=
  { State.reset with config := { Config.default with capTscDeadline := false, debugChecks := false } }

/-- A state with this word on `OPA`. -/
def opa (s : State) (w : Word) : State := { s with opa := w }

theorem inv_reset : State.reset.Inv :=
  ⟨by decide, by decide, by decide, by decide, by decide, by decide, by decide, by decide, by decide⟩

theorem inv_x2 : x2.Inv :=
  ⟨by decide, by decide, by decide, by decide, by decide, by decide, by decide, by decide, by decide⟩

theorem inv_xaRun : (presenting xaRun 0x44 0 0).Inv :=
  ⟨by decide, by decide, by decide, by decide, by decide, by decide, by decide, by decide, by decide⟩

theorem inv_halted : (presenting halted 0x44 0 0).Inv :=
  ⟨by decide, by decide, by decide, by decide, by decide, by decide, by decide, by decide, by decide⟩

theorem witness_StepKeepsInvariant :
    ((presenting xaRun 0x44 0 0).Inv ∧ ∃ t, step (presenting xaRun 0x44 0 0) = .next t) ∧
    ((presenting halted 0x44 0 0).Inv ∧ ∃ t, step (presenting halted 0x44 0 0) = .next t) :=
  ⟨⟨inv_xaRun, _, rfl⟩, ⟨inv_halted, _, rfl⟩⟩

theorem witness_HostResetRestartsBlock :
    ({ halted with inputs := [.reset, .reset] } : State).inputs = .reset :: [.reset] := by decide

theorem witness_HaltedBlockRefusesEveryCommand :
    (presenting halted 0 1 2).inputs = [.command { cmd := 0, opa := 1, opb := 2 }] ∧
    (presenting halted 0 1 2).halt = true := by decide

/-- The lowest unassigned opcode, and the word of `EOI` with one must-be-zero bit set. -/
theorem witness_IllegalWordIsFatal :
    (presenting x2 0x00000000 0 0).halt = false ∧
    (∀ i : Instr, i.wellFormed = true → encode i ≠ 0x00000000#32) ∧
    (∀ i : Instr, i.wellFormed = true → encode i ≠ 0x00000144#32) := by
  refine ⟨by decide, ?_, ?_⟩ <;> intro i _ h <;> have h2 := congrArg opField h <;> cases i <;>
    simp only [encode, opField_encodeZ, opField_encodeS, opField_encodeI, opField_encodeSI,
      opField_encodeC] at h h2 <;> first | exact absurd h2 (by decide) | exact absurd h (by decide)

theorem witness_StepRunsDecodedCommand :
    (presenting x2 0x00000B40 0 0).inputs = [.command { cmd := 0x00000B40, opa := 0, opb := 0 }] ∧
    (presenting x2 0x00000B40 0 0).halt = false ∧
    decode 0x00000B40#32 = .ok (.regRd .lvtTimer) ∧
    (Instr.regRd .lvtTimer).wellFormed = true := by decide

theorem witness_StepStopsOnlyWithoutInput :
    (presenting x2 0x44 0 0).inputs ≠ [] ∧ State.reset.inputs = [] := by decide

/-- One command completes `OK`, one is fatal, one is refused. -/
theorem witness_SeqCountsCommandsCompletedOk :
    (got (step (presenting x2 0x44 0 0))).map State.stat = some (some .ok) ∧
    (got (step (presenting x2 0x45 0 0))).map State.stat = some (some (.fatal 0x01)) ∧
    (got (step (presenting halted 0x44 0 0))).map State.stat = some (some (.fatal 0x34)) := by decide

theorem witness_OnlyResetLeavesHalt :
    halted.halt = true ∧
    (got (step { halted with inputs := [.reset] })).map State.halt = some false := by decide

/-- First clause: a fatal. Second clause: a command that completes. -/
theorem witness_FatalIsRecordedOnce :
    x2.Inv ∧ (∀ rest, (presenting x2 0x45 0 0).inputs ≠ .reset :: rest) ∧
    (got (step (presenting x2 0x45 0 0))).map State.fcode = some 0x01 ∧ x2.fcode = 0 ∧
    (got (step (presenting x2 0x44 0 0))).map State.halt = some false := by
  refine ⟨inv_x2, ?_, by decide, by decide, by decide⟩
  intro rest h
  cases h

theorem witness_OnlyModeSelectAndResetWriteMode :
    ((got (step (presenting State.reset 0x00010001 0 0))).map State.mode = some .x2apic ∧
      State.reset.mode = .unsel) ∧
    ((got (step { xa with inputs := [.reset] })).map State.base = some 0 ∧ xa.base ≠ 0) := by decide

theorem witness_ParametersAreConstant : ∃ t, step (presenting bare 0x44 0 0) = .next t := ⟨_, rfl⟩

theorem witness_TraceOnlyGrows :
    (got (step (presenting xaRun 0x43 0x00004608 0xFF))).map (fun t => t.trace.length) = some 3 := by
  decide

/-- Both enables set; the hardware enable alone. -/
theorem witness_BootCommandSelectsMode :
    hostBootCommand 0xFEE00C00 0 = some { cmd := 0x00010001, opa := 0, opb := 0 } ∧
    hostBootCommand 0xFEE00800 0xFFFF8000FEE00000 =
      some { cmd := 0x00000001, opa := 0xFEE00000, opb := 0xFFFF8000 } ∧
    (0xFFFF8000FEE00000 : DWord).extractLsb' 0 12 = 0 ∧ (0 : DWord).extractLsb' 0 12 = 0 := by decide

theorem witness_DecodeOfEncodeIsIdentity :
    (Instr.icrBuild initDeassert).wellFormed = true ∧
    (Instr.icrBuild { plainFixed with vec := 0xFF }).wellFormed = true := by decide

theorem witness_DecodeAcceptsOnlyEncodings :
    decode 0x03FF7130#32 = .ok (.icrBuild
      { vp := true, dm := .fixed, dstm := .logical, trig := .level, asrt := .assert, vec := 0xFF,
        dkind := .allExcludingSelf }) := by decide

/-- The lowest and the highest unassigned opcode, and two between assigned ones. -/
theorem witness_UnassignedOpcodesAreRejected :
    ∀ w ∈ ([0x00000000, 0x00000013, 0x00000045, 0xFFFFFFFF] : List Word), w.extractLsb' 0 8 ∉
      ([0x01, 0x10, 0x11, 0x12, 0x14, 0x15, 0x16, 0x18, 0x19, 0x1C, 0x1D, 0x1E, 0x20, 0x21, 0x22,
        0x23, 0x24, 0x25, 0x26, 0x27, 0x28, 0x30, 0x31, 0x32, 0x34, 0x35, 0x36, 0x37, 0x38, 0x39,
        0x40, 0x41, 0x42, 0x43, 0x44] : List Byte) := by simp

/-- The widest value of a field at the top of the word, and disjoint fields that touch. -/
theorem witness_BitFieldLaws :
    18 ≤ 31 ∧ 31 < 32 ∧ (0x3FFF#32).toNat < 2 ^ (31 - 18 + 1) ∧
    setBits 0#32 31 18 0#32 = .ok 0#32 ∧ 0 ≤ 17 ∧ 17 < 32 ∧ (31 < 0 ∨ 17 < 18) ∧
    setBits 0#32 17 0 1#32 = .ok 1#32 := by decide

/-- The narrowest value that does not fit. -/
theorem witness_BitFieldPrimitivesReadSlices :
    8 ≤ 10 ∧ 10 < 32 ∧ 2 ^ (10 - 8 + 1) ≤ (8#32).toNat := by decide

theorem witness_ErrorStatusFlagsRead : 7 < (8 : Byte).toNat ∧ 7 < (255 : Byte).toNat := by decide

theorem witness_DivideConfigurationEncoded : 7 < (8 : Byte).toNat ∧ 7 < (255 : Byte).toNat := by
  decide

theorem witness_DefaultRegisterMap :
    (LogicalReg.tdc, (0x83E : Word), (0x3E0 : BitVec 12)) ∈
      ([(.id, 0x802, 0x020), (.tdc, 0x83E, 0x3E0)] : List (LogicalReg × Word × BitVec 12)) := by decide

/-- Vector 16 with the check; vector 15 without; vector 15 with. -/
theorem witness_LvtVectorRead :
    (15 < ((opa State.reset 0x10).opa.extractLsb' 0 8).toNat) ∧
    ((opa bare 0x0F).config.debugChecks = false) ∧
    ((opa State.reset 0x0F).config.debugChecks = true ∧
      ((opa State.reset 0x0F).opa.extractLsb' 0 8).toNat ≤ 15) := by decide

theorem witness_LvtVectorReplaced : 15 < (16 : Byte).toNat ∧ (15 : Byte).toNat ≤ 15 := by decide

theorem witness_LvtMaskReplaced : 1 < (2 : Byte).toNat := by decide

theorem witness_LvtDeliveryModeRead :
    (LvtKind.cmci ∈ [LvtKind.cmci, .performanceMonitors, .thermalSensor] ∧
      (opa State.reset 0x700).opa.extractLsb' 8 3 ≠ 0b011#3) ∧
    (LvtKind.thermalSensor ∈ [LvtKind.cmci, .performanceMonitors, .thermalSensor] ∧
      (opa State.reset 0x300).opa.extractLsb' 8 3 = 0b011#3) ∧
    LvtKind.timer ∈ [LvtKind.timer, .lint0, .lint1, .error] := by decide

theorem witness_LvtDeliveryModeReplaced :
    ((3 : Byte) = 3 ∨ 7 < (3 : Byte).toNat) ∧ ((8 : Byte) = 3 ∨ 7 < (8 : Byte).toNat) ∧
    LvtKind.performanceMonitors ∈ [LvtKind.cmci, .performanceMonitors, .thermalSensor] ∧
    LvtKind.error ∈ [LvtKind.timer, .lint0, .lint1, .error] := by decide

theorem witness_LvtTimerModeRead :
    (LvtKind.timer = .timer ∧ (opa State.reset 0x40000).opa.extractLsb' 17 2 ≠ 0b11#2) ∧
    (LvtKind.timer = .timer ∧ (opa State.reset 0x60000).opa.extractLsb' 17 2 = 0b11#2) ∧
    LvtKind.cmci ≠ .timer := by decide

/-- TSC-Deadline with the capability and without; a mode that does not need it; another kind. -/
theorem witness_LvtTimerModeReplaced :
    2 < (3 : Byte).toNat ∧
    (TimerMode.tscDeadline = .tscDeadline → State.reset.config.capTscDeadline = true) ∧
    (TimerMode.periodic = .tscDeadline → bare.config.capTscDeadline = true) ∧
    bare.config.capTscDeadline = false ∧ LvtKind.lint0 ≠ .timer := by decide

theorem witness_LvtReadAfterWrite :
    15 < (16 : Byte).toNat ∧ LvtKind.cmci ∈ [LvtKind.cmci, .performanceMonitors, .thermalSensor] ∧
    (TimerMode.tscDeadline = .tscDeadline → State.reset.config.capTscDeadline = true) := by decide

theorem witness_LvtSettersCommute :
    (Instr.lvtSetvec .timer 0x20, Instr.lvtSettm .timer .periodic) ∈
      [(Instr.lvtSetvec .timer 0x20, Instr.lvtSetmask .timer true),
       (.lvtSetvec .timer 0x20, .lvtSetdm .timer .fixed),
       (.lvtSetvec .timer 0x20, .lvtSettm .timer .periodic),
       (.lvtSetmask .timer true, .lvtSetdm .timer .fixed),
       (.lvtSetmask .timer true, .lvtSettm .timer .periodic),
       (.lvtSetdm .timer .fixed, .lvtSettm .timer .periodic)] ∧
    (resultOn State.reset (.lvtSetvec .timer 0x20) 0x00010000).bind
      (resultOn State.reset (.lvtSettm .timer .periodic)) = some 0x00030020 := by decide

theorem witness_LvtSettersKeepOtherFields :
    (Instr.lvtSetdm .cmci .external, Instr.lvtGetds .cmci) ∈
      [(Instr.lvtSetvec .cmci 0x20, Instr.lvtGetmask .cmci),
       (.lvtSetdm .cmci .external, .lvtGetvec .cmci), (.lvtSetdm .cmci .external, .lvtGetmask .cmci),
       (.lvtSetdm .cmci .external, .lvtGetds .cmci)] ∧
    resultOn State.reset (.lvtSetdm .cmci .external) 0x00011030 = some 0x00011730 ∧
    resultOn State.reset (.lvtGetds .cmci) 0x00011730 = some 1 := by decide

/-- One description for each clause, the five rejections in the order of the rules. -/
theorem witness_IcrBuildValidatesAndEncodes :
    (plainFixed.wellFormed = true ∧
      (plainFixed.vp = true ↔ plainFixed.dm ≠ .systemManagement ∧ plainFixed.dm ≠ .init) ∧
      plainFixed.asrt ≠ .deassert) ∧
    (initDeassert.wellFormed = true ∧ initDeassert.asrt = .deassert ∧ initDeassert.dm = .init ∧
      initDeassert.trig = .level ∧ initDeassert.dkind = .allIncludingSelf ∧
      initDeassert.vp = false) ∧
    ({ plainFixed with asrt := .deassert } : IcrDescription).dm ≠ .init ∧
    ({ initDeassert with trig := .edge } : IcrDescription).trig = .edge ∧
    ({ initDeassert with vp := true } : IcrDescription).wellFormed = true ∧
    ({ plainFixed with vp := false, vec := 0 } : IcrDescription).wellFormed = true ∧
    ({ initDeassert with dkind := .selfOnly } : IcrDescription).dkind ≠ .allIncludingSelf := by decide

theorem witness_IcrVectorAndDeliveryModeRead :
    (opa State.reset 0x300).opa.extractLsb' 8 3 = 0b011#3 ∧
    (opa State.reset 0x200).opa.extractLsb' 8 3 = 0b010#3 ∧
    (opa State.reset 0x500).opa.extractLsb' 8 3 = 0b101#3 ∧
    (opa State.reset 0x7FF).opa.extractLsb' 8 3 ≠ 0b011#3 ∧
    (opa State.reset 0x7FF).opa.extractLsb' 8 3 ≠ 0b010#3 ∧
    (opa State.reset 0x7FF).opa.extractLsb' 8 3 ≠ 0b101#3 := by decide

theorem witness_IcrRoundTrips :
    initDeassert.wellFormed = true ∧ ∃ t, exec (.icrBuild initDeassert) State.reset = .next t ∧
      t.res0 = some 0x00088500 ∧ t.res1 = some 0 :=
  ⟨by decide, _, rfl, by decide, by decide⟩

/-- An aligned base; misaligned at the lowest and at the highest bit of the offset; a mode selected. -/
theorem witness_ModeSelectedOnce :
    1 < (2 : Byte).toNat ∧ State.reset.mode = .unsel ∧ State.reset.config.baseWidth = 64 ∧
    (opa State.reset 0xFEE00000).opa.extractLsb' 0 12 = 0#12 ∧
    (opa State.reset 0xFEE00001).opa.extractLsb' 0 12 ≠ 0#12 ∧
    (opa State.reset 0xFEE00800).opa.extractLsb' 0 12 ≠ 0#12 ∧ x2.mode ≠ .unsel := by decide

/-- A state whose base pointer has 32 bits. -/
def narrow : State := { State.reset with config := { Config.default with baseWidth := 32 } }

/-- The lowest width at which bit 32 is no bit of the pointer, aligned and not; both outcomes. -/
theorem witness_BaseHasConfiguredWidth :
    narrow.mode = .unsel ∧
    ((((0xFFFF8001 : Word) ++ (0xFEE00000 : Word)).setWidth narrow.config.baseWidth.val).setWidth
      64).extractLsb' 0 12 = 0#12 ∧
    ((((0xFFFF8001 : Word) ++ (0xFEE00800 : Word)).setWidth narrow.config.baseWidth.val).setWidth
      64).extractLsb' 0 12 ≠ 0#12 ∧
    (got (step (presenting narrow 0x00000001 0xFEE00000 0xFFFF8001))).map State.base =
      some 0xFEE00000 := by decide

theorem witness_DispatchNeedsSelectedMode : State.reset.mode = .unsel := by decide

/-- Answered from the run's list in both modes, and by a free value; the identifier and another register. -/
theorem witness_RegisterReadOnce :
    LogicalReg.id.routed = some .id ∧ LogicalReg.tdc.routed = some .tdc ∧
    (∀ r ∈ [LogicalReg.id, .tdc], r ∈ [LogicalReg.id, .version, .esr, .lvtCmci, .lvtTimer, .lvtThermal,
      .lvtPerf, .lvtLint0, .lvtLint1, .lvtError, .tic, .tcc, .tdc]) ∧
    answersNext (answering x2 0xFFFFFFFF00000105) 0xFFFFFFFF00000105 ∧
    answersNext xa (Config.freeAnswer 0) ∧ x2.mode = .x2apic ∧ xa.mode = .xapic ∧
    LogicalReg.tdc ≠ .id :=
  ⟨rfl, rfl, by decide, .inl rfl, .inr ⟨rfl, rfl⟩, rfl, rfl, by decide⟩

theorem witness_RegisterAccessChecked :
    xa.mode ≠ .unsel ∧ LogicalReg.tpr ∈ [LogicalReg.tpr, .apr, .ppr, .rrd, .ldr] ∧
    LogicalReg.icr ∈ [LogicalReg.eoi, .icr] ∧
    LogicalReg.tcc ∈ [LogicalReg.id, .version, .eoi, .esr, .icr, .tcc] := by decide

theorem witness_RegisterWrittenOnce :
    LogicalReg.lvtTimer.routed = some .lvtTimer ∧
    LogicalReg.lvtTimer ∈ [LogicalReg.lvtCmci, .lvtTimer, .lvtThermal, .lvtPerf, .lvtLint0, .lvtLint1,
      .lvtError, .tic, .tdc] ∧ x2.mode = .x2apic ∧ xa.mode = .xapic ∧
    (opa x2 0x40020).opa.extractLsb' 17 2 = 0b10#2 ∧
    (opa x2 0x60020).opa.extractLsb' 17 2 ≠ 0b10#2 := by decide

theorem witness_ClearAndEoiWriteZero :
    x2.mode = .x2apic ∧ xa.mode = .xapic ∧ State.reset.mode = .unsel := by decide

/-- LowPriority; another mode in both forms; the largest identifier of xAPIC mode and the next one. -/
theorem witness_InterruptCommandSent :
    State.reset.mode = .unsel ∧
    (x2.mode = .x2apic ∧ (opa x2 0x4140).opa.extractLsb' 8 3 = 0b001#3) ∧
    ((opa x2 0x4608).opa.extractLsb' 8 3 ≠ 0b001#3 ∧ x2.config.x2IcrForm = .split) ∧
    ({ x2.config with x2IcrForm := .merged } : Config).x2IcrForm = .merged ∧
    (xa.mode = .xapic ∧ 0xFF < (0x100 : Word).toNat ∧ (0xFF : Word).toNat ≤ 0xFF) := by decide

theorem witness_ModesGiveEqualResultsAndWords :
    Instr.eoi ≠ .regRd .id ∧
    (∃ ta, exec .eoi { x2 with mode := .xapic } = .next ta) ∧
    (∃ tb, exec .eoi { x2 with mode := .x2apic } = .next tb) :=
  ⟨by decide, ⟨_, rfl⟩, ⟨_, rfl⟩⟩

theorem witness_PageAddressesNeverCarry :
    (presenting xaRun 0x44 0 0).Inv ∧ (presenting xaRun 0x44 0 0).base ≠ 0 :=
  ⟨inv_xaRun, by decide⟩

theorem witness_PureCommandsNeitherEmitNorReadMode :
    isPure (.icrBuild plainFixed) = true ∧ ∃ t, exec (.icrBuild plainFixed) xa = .next t :=
  ⟨rfl, _, rfl⟩

theorem witness_UnnamedPortsAreIgnored :
    usesOpa .eoi = false ∧ usesOpb (.regWr .tic) = false ∧ (∃ t, exec .eoi x2 = .next t) ∧
    ∃ t, exec (.regWr .tic) x2 = .next t :=
  ⟨rfl, rfl, ⟨_, rfl⟩, ⟨_, rfl⟩⟩

theorem witness_CapabilityReadByTimerModeOnly :
    Instr.lvtSettm .timer .periodic ≠ .lvtSettm .timer .tscDeadline ∧
    ∃ t, exec (.lvtSettm .timer .periodic) bare = .next t :=
  ⟨by decide, _, rfl⟩

theorem witness_TransactionsMatchMode :
    x2.Inv ∧ ∃ t, exec (.regWr .lvtTimer) { x2 with opa := 0x40020 } = .next t ∧
      Transaction.fence ∈ t.trace :=
  ⟨inv_x2, _, rfl, by decide⟩

end Sys2Proof.Tests
end

section
/-! 00_scope. The base pointer of the configured width (R7) and the capability pin (R9). -/

namespace Sys2Proof.Machine

/-! ### Bit fields and the base pointer -/

/-- A field is the slice of its bits, zero-extended (40_bitfield_primitives R110). -/
theorem getBits_eq_extractLsb' {W : Nat} (w : BitVec W) (hi lo : Nat) :
    getBits w hi lo = (w.extractLsb' lo (hi - lo + 1)).setWidth W := by
  apply BitVec.eq_of_getLsbD_eq
  intro i hi'
  rw [getBits_getLsbD, BitVec.getLsbD_setWidth, BitVec.getLsbD_extractLsb', decide_eq_true hi',
    Bool.true_and]

/-- A field reads zero exactly when its slice is zero. -/
theorem getBits_eq_zero_iff {W : Nat} (w : BitVec W) {hi : Nat} (lo : Nat) (h : hi < W) :
    getBits w hi lo = 0 ↔ w.extractLsb' lo (hi - lo + 1) = 0 := by
  rw [getBits_eq_extractLsb', ← BitVec.toNat_inj, ← BitVec.toNat_inj,
    BitVec.toNat_setWidth_of_le (by omega)]
  rfl

/-- The base pointer is the low bits, as many as configured, of `OPB` and `OPA` (log 23). -/
theorem State.basePointer_eq (s : State) :
    s.basePointer = ((s.opb ++ s.opa).setWidth s.config.baseWidth.val).setWidth 64 := by
  rw [State.basePointer, State.operand64, concat_eq_append]

/-! ### The selection of a mode (44_mode_dispatch R210) -/

/-- Selecting xAPIC while no mode is selected turns on the page offset of the base pointer alone. -/
theorem execModeSelect_xapic_of_unsel {s : State} (h : s.mode = .unsel) :
    execModeSelect .xapic s =
      if s.basePointer.extractLsb' 0 12 = 0#12 then
        .next (okState { s with mode := .xapic, base := s.basePointer } 0 0)
      else .next (fatalState s 0x32) := by
  have aligned := getBits_eq_zero_iff s.basePointer (hi := 11) 0 (by decide)
  rw [execModeSelect, raiseIf_of_not (not_not.2 h)]
  by_cases ha : s.basePointer.extractLsb' 0 12 = 0#12
  · rw [if_pos ha, raiseIf_of_not fun hm => hm.2 (aligned.2 ha)]
    rfl
  · rw [if_neg ha, raiseIf_of ⟨rfl, fun hz => ha (aligned.1 hz)⟩]
    rfl

/-- Settles O46: both outcomes are branches of the selection on the pointer of the configured width. -/
theorem baseHasConfiguredWidth : Obligations.BaseHasConfiguredWidth := by
  intro s hmode
  rw [← State.basePointer_eq]
  exact ⟨fun ha => (execModeSelect_xapic_of_unsel hmode).trans (if_pos ha),
    fun ha => (execModeSelect_xapic_of_unsel hmode).trans (if_neg ha)⟩

/-! ### The two forms of the x2APIC send (44_mode_dispatch R221) -/

theorem sendX2_split {s : State} (h : s.config.x2IcrForm = .split) :
    sendX2 s = (s.msrWrite s.config.x2IcrHighMsr (s.opb.setWidth 64)).msrWrite (s.config.msr .icr)
      (s.opa.setWidth 64) := by
  simp only [sendX2, h]

theorem sendX2_merged {s : State} (h : s.config.x2IcrForm = .merged) :
    sendX2 s = s.msrWrite (s.config.msr .icr) (concat s.opb s.opa) := by
  simp only [sendX2, h]

/-! ### A change of the state that a command does not notice -/

/-- The outcome with the next state changed by `f`. -/
def mapNext (f : State → State) : Result → Result
  | .next t => .next (f t)
  | .fault r => .fault r
  | .refused r => .refused r

/-- When a change of the state carries over to what the fatal entry and the checked part of a command
answer, it carries over to the command's outcome. -/
theorem State.conclude_map {s : State} {f : State → State} {e e' : Except FatalCode State}
    (hfatal : ∀ c, (f s).raiseFatal c = f (s.raiseFatal c)) (he : e' = f <$> e) :
    (f s).conclude e' = mapNext f (s.conclude e) := by
  subst he
  cases e with
  | ok t => rfl
  | error c => exact congrArg Host.Outcome.next (hfatal c)

/-! ### The capability pin (00_scope R9) -/

/-- The state of a run with this value on the pin `CAP_TSC_DEADLINE`. -/
def State.withCap (b : Bool) (s : State) : State :=
  { s with config := { s.config with capTscDeadline := b } }

section CapabilityPin

variable (b : Bool) (s : State)

theorem State.withCap_selectMode (m : Backend) (p : DWord) :
    (s.withCap b).selectMode m p = (s.selectMode m p).withCap b := by
  cases m <;> rfl

theorem State.withCap_readReg (r : RoutedReg) :
    (s.withCap b).readReg r = ((s.readReg r).1, (s.readReg r).2.withCap b) := by
  by_cases h : s.mode = .x2apic
  · rw [State.readReg_x2apic h, State.readReg_x2apic (s := s.withCap b) h]
    rfl
  · rw [State.readReg_memory h, State.readReg_memory (s := s.withCap b) h]
    rfl

theorem State.withCap_writeReg (r : RoutedReg) (v : Word) :
    (s.withCap b).writeReg r v = (s.writeReg r v).withCap b := by
  by_cases h : s.mode = .x2apic
  · rw [State.writeReg_x2apic h, State.writeReg_x2apic (s := s.withCap b) h]
    rfl
  · rw [State.writeReg_memory h, State.writeReg_memory (s := s.withCap b) h]
    rfl

theorem withCap_fenceAfter (r : RoutedReg) (w : Word) :
    fenceAfter r w (s.withCap b) = (fenceAfter r w s).withCap b := by
  by_cases h : r = .lvtTimer ∧ timerField w = 0b10#32
  · rw [fenceAfter, fenceAfter, if_pos h, if_pos h]
    rfl
  · rw [fenceAfter, fenceAfter, if_neg h, if_neg h]

theorem withCap_sendX2 : sendX2 (s.withCap b) = (sendX2 s).withCap b := by
  cases h : s.config.x2IcrForm with
  | split =>
    rw [sendX2_split h, sendX2_split (s := s.withCap b) h]
    rfl
  | merged =>
    rw [sendX2_merged h, sendX2_merged (s := s.withCap b) h]
    rfl

/-- A command does not notice the pin when its checked part carries the change of the pin over. -/
theorem conclude_withCap {e e' : Except FatalCode State} (he : e' = State.withCap b <$> e) :
    (s.withCap b).conclude e' = mapNext (State.withCap b) (s.conclude e) :=
  State.conclude_map (fun _ => rfl) he

theorem hasTimerMode_eq_false_iff (k : LvtKind) : hasTimerMode k = false ↔ k ≠ .timer := by
  cases k <;> decide

/-- Every other setting of a timer mode is decided before the pin is looked at: another kind by the check
of the kind, another timer mode by the timer mode alone (42_local_vector_table R161). -/
theorem execLvtSettm_withCap {k : LvtKind} {t : TimerMode}
    (h : ¬ (k = .timer ∧ t = .tscDeadline)) :
    execLvtSettm k t (s.withCap b) = mapNext (State.withCap b) (execLvtSettm k t s) := by
  apply conclude_withCap
  by_cases hk : hasTimerMode k = false
  · rw [raiseIf_of hk]
    rfl
  · have ht : t ≠ .tscDeadline := fun ht =>
      h ⟨not_not.1 fun hne => hk ((hasTimerMode_eq_false_iff k).2 hne), ht⟩
    have pinUnread (c : Bool) :
        raiseIf (t = .tscDeadline ∧ c = false) .tscDeadlineUnsupported = .ok () :=
      raiseIf_of_not (fun hp => ht hp.1) _
    simp only [pinUnread, map_bind, map_pure]
    rfl

/-- Every command but the setting of TSC-Deadline carries a change of the pin over to its outcome. The
groups of cases: checks before a pure result, checks before a state change, a last step that branches; the
other commands check nothing. -/
theorem exec_withCap {i : Instr} (h : i ≠ .lvtSettm .timer .tscDeadline) :
    exec i (s.withCap b) = mapNext (State.withCap b) (exec i s) := by
  cases i with
  | lvtSettm k t =>
    exact execLvtSettm_withCap b s fun ⟨hk, ht⟩ => h (by rw [hk, ht])
  | lvtGetvec | lvtSetvec | lvtGetdm | lvtSetdm | lvtGettm | icrBuild | icrGetdm =>
    apply conclude_withCap
    simp only [map_bind, map_pure]
    rfl
  | modeSelect | regRd | regWr | esrClr | eoi =>
    apply conclude_withCap
    simp only [map_bind, map_pure, State.withCap_selectMode, State.withCap_readReg,
      State.withCap_writeReg, withCap_fenceAfter]
    rfl
  | icrGetvec | icrSend =>
    apply conclude_withCap
    simp only [map_bind, apply_ite (State.withCap b <$> ·), map_pure, withCap_sendX2]
    rfl
  | _ => rfl

end CapabilityPin

/-- Settles O59: with the pin changed, the outcome is the one before with the pin changed in it. -/
theorem capabilityReadByTimerModeOnly : Obligations.CapabilityReadByTimerModeOnly := by
  intro i s t b hi ht
  calc exec i (s.withCap b)
    _ = mapNext (State.withCap b) (exec i s) := exec_withCap b s hi
    _ = .next (t.withCap b) := congrArg (mapNext (State.withCap b)) ht

end Sys2Proof.Machine
end

section
/-! 10_state and 60_exceptions. What a command does to the state once its checks have passed, what a
step does for each thing the host can present, and which ports a command reads (R23). -/

namespace Sys2Proof.Machine

/-! ### No check raises `BitfieldOverflow` (40_bitfield_primitives R115) -/

theorem raiseIf_ne_overflow {p : Prop} [Decidable p] {c : FatalCode} (hc : c ≠ .bitfieldOverflow) :
    raiseIf p c ≠ .error .bitfieldOverflow := by
  by_cases h : p
  · rw [raiseIf_of h]
    exact fun he => hc (Except.error.inj he)
  · rw [raiseIf_of_not h]
    exact nofun

theorem not_of_raiseIf_ok {p : Prop} [Decidable p] {c : FatalCode} {u : Unit}
    (h : raiseIf p c = .ok u) : ¬ p := fun hp => by
  rw [raiseIf_of hp] at h
  cases h

/-- A value no wider than the field fits. -/
theorem setBits_ne_overflow {W n : Nat} (w : BitVec W) (v : BitVec n) {hi lo : Nat} (hW : n ≤ W)
    (hfield : n ≤ hi - lo + 1) : setBits w hi lo (v.setWidth W) ≠ .error .bitfieldOverflow := by
  have fits : (v.setWidth W).toNat < 2 ^ (hi - lo + 1) := by
    rw [BitVec.toNat_setWidth_of_le hW]
    exact v.isLt.trans_le (Nat.pow_le_pow_right (by decide) hfield)
  rw [setBits_of_fits _ _ _ _ fits]
  exact nofun

theorem bind_ne_overflow {α β : Type} {e : Except FatalCode α} {k : α → Except FatalCode β}
    (he : e ≠ .error .bitfieldOverflow) (hk : ∀ a, k a ≠ .error .bitfieldOverflow) :
    (e >>= k) ≠ .error .bitfieldOverflow := by
  cases e with
  | ok a => exact hk a
  | error c => exact fun h => he (congrArg _ (Except.error.inj h))

theorem route_ne_overflow (r : LogicalReg) : route r ≠ .error .bitfieldOverflow := by
  obtain ⟨rr, -, h⟩ | ⟨-, h⟩ := route_cases r <;> rw [h] <;> exact nofun

theorem routed_of_route_ok {r : LogicalReg} {rr : RoutedReg} (h : route r = .ok rr) :
    r.routed = some rr := by
  obtain ⟨rr', hr, h'⟩ | ⟨-, h'⟩ := route_cases r <;> rw [h] at h' <;> cases h'
  exact hr

theorem checkDescription_ne_overflow (d : IcrDescription) :
    checkDescription d ≠ .error .bitfieldOverflow :=
  bind_ne_overflow (raiseIf_ne_overflow (by decide)) fun _ =>
  bind_ne_overflow (raiseIf_ne_overflow (by decide)) fun _ =>
  bind_ne_overflow (raiseIf_ne_overflow (by decide)) fun _ =>
  bind_ne_overflow (raiseIf_ne_overflow (by decide)) fun _ =>
  raiseIf_ne_overflow (by decide)

theorem buildLow_ne_overflow (d : IcrDescription) : buildLow d ≠ .error .bitfieldOverflow :=
  bind_ne_overflow (setBits_ne_overflow _ d.vec (by decide) (by decide)) fun _ =>
  bind_ne_overflow (setBits_ne_overflow _ d.dm.code (by decide) (by decide)) fun _ =>
  setBits_ne_overflow _ d.dkind.code (by decide) (by decide)

/-! ### What a command does once its checks have passed -/

/-- The state in which a command drives its results, with the checks it has passed. -/
inductive Effect (s : State) : Instr → State → Prop
  /-- 70_reset_and_hazards R293 -/
  | pure {i : Instr} (hpure : isPure i = true) : Effect s i s
  /-- 44_mode_dispatch R210 -/
  | select {m : Backend} (hmode : s.mode = .unsel)
      (haligned : m = .xapic → s.basePointer.extractLsb' 0 12 = 0#12) :
      Effect s (.modeSelect m) (s.selectMode m s.basePointer)
  /-- 44_mode_dispatch R212 -/
  | read {r : LogicalReg} {rr : RoutedReg} (hmode : s.mode ≠ .unsel) (hr : r.routed = some rr)
      (hread : rr.readable = true) : Effect s (.regRd r) (s.readReg rr).2
  /-- 44_mode_dispatch R218, R219 -/
  | write {r : LogicalReg} {rr : RoutedReg} (hmode : s.mode ≠ .unsel) (hr : r.routed = some rr)
      (hwrite : rr.writable = true) :
      Effect s (.regWr r) (fenceAfter rr s.opa (s.writeReg rr s.opa))
  /-- 44_mode_dispatch R220 -/
  | clearEsr (hmode : s.mode ≠ .unsel) : Effect s .esrClr (s.writeReg .esr 0)
  /-- 44_mode_dispatch R224 -/
  | eoi (hmode : s.mode ≠ .unsel) : Effect s .eoi (s.writeReg .eoi 0)
  /-- 44_mode_dispatch R221 -/
  | sendX2 (hmode : s.mode = .x2apic) : Effect s .icrSend (sendX2 s)
  /-- 44_mode_dispatch R222 -/
  | sendXapic (hmode : s.mode = .xapic) : Effect s .icrSend (sendXapic s)

/-- What the checked part of a command answers: a state with this property, its results driven, or a
fatal other than `BitfieldOverflow`. -/
def Completes (P : State → Prop) : Except FatalCode State → Prop
  | .ok t => ∃ u r0 r1, P u ∧ t = u.complete r0 r1
  | .error c => c ≠ .bitfieldOverflow

section

variable {P : State → Prop} {α : Type}

theorem completes_complete {u : State} {r0 r1 : Word} (h : P u) :
    Completes P (.ok (u.complete r0 r1)) :=
  ⟨u, r0, r1, h, rfl⟩

theorem completes_bind {e : Except FatalCode α} {k : α → Except FatalCode State}
    (he : e ≠ .error .bitfieldOverflow) (hk : ∀ a, e = .ok a → Completes P (k a)) :
    Completes P (e >>= k) := by
  cases e with
  | ok a => exact hk a rfl
  | error c => exact fun hc => he (congrArg _ hc)

theorem completes_raiseIf {p : Prop} [Decidable p] {c : FatalCode}
    {k : Unit → Except FatalCode State} (hc : c ≠ .bitfieldOverflow)
    (hk : ¬ p → Completes P (k ())) : Completes P (raiseIf p c >>= k) :=
  completes_bind (raiseIf_ne_overflow hc) fun _ h => hk (not_of_raiseIf_ok h)

theorem completes_requireMode {s : State} {k : Unit → Except FatalCode State}
    (hk : s.mode ≠ .unsel → Completes P (k ())) : Completes P (requireMode s >>= k) :=
  completes_raiseIf (by decide) hk

theorem completes_route {r : LogicalReg} {k : RoutedReg → Except FatalCode State}
    (hk : ∀ rr, r.routed = some rr → Completes P (k rr)) : Completes P (route r >>= k) :=
  completes_bind (route_ne_overflow r) fun rr h => hk rr (routed_of_route_ok h)

end

/-- Every command is its checks and its effect, then its conclusion (60_exceptions R251, R256). The six
dispatch commands first, then the pure ones with checks; the other commands check nothing. -/
theorem exec_eq_conclude (i : Instr) (s : State) :
    ∃ e, exec i s = s.conclude e ∧ Completes (Effect s i) e := by
  cases i with
  | modeSelect m =>
    refine ⟨_, rfl, completes_raiseIf (by decide) fun hmode =>
      completes_raiseIf (by decide) fun hbase =>
      completes_complete (.select (not_not.1 hmode) fun hm => ?_)⟩
    exact (getBits_eq_zero_iff (hi := 11) _ 0 (by decide)).1 (not_not.1 fun h => hbase ⟨hm, h⟩)
  | regRd r =>
    exact ⟨_, rfl, completes_requireMode fun hmode => completes_route fun rr hr =>
      completes_raiseIf (by decide) fun h =>
      completes_complete (.read hmode hr (Bool.not_eq_false _ ▸ h))⟩
  | regWr r =>
    exact ⟨_, rfl, completes_requireMode fun hmode => completes_route fun rr hr =>
      completes_raiseIf (by decide) fun h =>
      completes_complete (.write hmode hr (Bool.not_eq_false _ ▸ h))⟩
  | esrClr =>
    exact ⟨_, rfl, completes_requireMode fun hmode => completes_complete (.clearEsr hmode)⟩
  | eoi =>
    exact ⟨_, rfl, completes_requireMode fun hmode => completes_complete (.eoi hmode)⟩
  | icrSend =>
    refine ⟨_, rfl, completes_requireMode fun hmode => completes_raiseIf (by decide) fun _ =>
      completes_raiseIf (by decide) fun _ => ?_⟩
    cases hm : s.mode with
    | unsel => exact absurd hm hmode
    | x2apic => exact completes_complete (.sendX2 hm)
    | xapic => exact completes_complete (.sendXapic hm)
  | lvtGetvec | icrGetdm =>
    exact ⟨_, rfl, completes_raiseIf (by decide) fun _ => completes_complete (.pure rfl)⟩
  | lvtSetvec k v =>
    exact ⟨_, rfl, completes_raiseIf (by decide) fun _ =>
      completes_bind (setBits_ne_overflow _ v (by decide) (by decide)) fun _ _ =>
      completes_complete (.pure rfl)⟩
  | lvtGetdm | lvtGettm =>
    exact ⟨_, rfl, completes_raiseIf (by decide) fun _ => completes_raiseIf (by decide) fun _ =>
      completes_complete (.pure rfl)⟩
  | lvtSetdm k d =>
    exact ⟨_, rfl, completes_raiseIf (by decide) fun _ =>
      completes_bind (setBits_ne_overflow _ d.code (by decide) (by decide)) fun _ _ =>
      completes_complete (.pure rfl)⟩
  | lvtSettm k t =>
    exact ⟨_, rfl, completes_raiseIf (by decide) fun _ => completes_raiseIf (by decide) fun _ =>
      completes_bind (setBits_ne_overflow _ t.code (by decide) (by decide)) fun _ _ =>
      completes_complete (.pure rfl)⟩
  | icrBuild d =>
    exact ⟨_, rfl, completes_bind (checkDescription_ne_overflow d) fun _ _ =>
      completes_bind (buildLow_ne_overflow d) fun _ _ => completes_complete (.pure rfl)⟩
  | icrGetvec =>
    refine ⟨_, rfl, completes_raiseIf (by decide) fun _ => ?_⟩
    split <;> exact completes_complete (.pure rfl)
  | _ => exact ⟨_, rfl, completes_complete (.pure rfl)⟩

/-- Everything a command can do: its effect with its results driven, or the fatal entry. -/
theorem exec_cases (i : Instr) (s : State) :
    (∃ u r0 r1, Effect s i u ∧ exec i s = .next (u.complete r0 r1)) ∨
    (∃ c, c ≠ .bitfieldOverflow ∧ exec i s = .next (s.raiseFatal c)) := by
  obtain ⟨e, he, hcompletes⟩ := exec_eq_conclude i s
  cases e with
  | error c => exact .inr ⟨c, hcompletes, he⟩
  | ok t =>
    obtain ⟨u, r0, r1, hu, rfl⟩ := hcompletes
    exact .inl ⟨u, r0, r1, hu, he⟩

@[simp] theorem fenceAfter_mode (rr : RoutedReg) (w : Word) (s : State) :
    (fenceAfter rr w s).mode = s.mode := by unfold fenceAfter; split <;> rfl

@[simp] theorem fenceAfter_base (rr : RoutedReg) (w : Word) (s : State) :
    (fenceAfter rr w s).base = s.base := by unfold fenceAfter; split <;> rfl

@[simp] theorem sendX2_mode (s : State) : (sendX2 s).mode = s.mode := by
  unfold sendX2; split <;> rfl

@[simp] theorem sendX2_base (s : State) : (sendX2 s).base = s.base := by
  unfold sendX2; split <;> rfl

/-- A command works on `MODE`, `BASE` and the downstream side alone. -/
theorem Effect.frame {s u : State} {i : Instr} (h : Effect s i u) :
    u = { s with mode := u.mode, base := u.base, trace := u.trace, answers := u.answers,
                 reads := u.reads } := by
  cases h with
  | pure | sendXapic => rfl
  | @select m => cases m <;> rfl
  | read => unfold State.readReg; split <;> rfl
  | write => unfold fenceAfter State.writeReg; split <;> split <;> rfl
  | clearEsr | eoi => unfold State.writeReg; split <;> rfl
  | sendX2 => unfold Machine.sendX2; split <;> rfl

/-- 10_state R21: only the selection of a mode, while none is selected, writes `MODE` and `BASE`. -/
theorem Effect.mode_base {s u : State} {i : Instr} (h : Effect s i u) :
    (u.mode = s.mode ∧ u.base = s.base) ∨ (s.mode = .unsel ∧ ∃ m, i = .modeSelect m) := by
  cases h with
  | @select m hmode => exact .inr ⟨hmode, m, rfl⟩
  | pure => exact .inl ⟨rfl, rfl⟩
  | read | write | clearEsr | eoi | sendX2 => exact .inl (by simp)
  | sendXapic => exact .inl ⟨rfl, rfl⟩

/-! ### The step, for each thing the host can present -/

theorem step_of_nil {s : State} (h : s.inputs = []) : step s = .fault .noInputPresented := by
  rw [step, State.takeInput_of_nil h]

section

variable {s : State} {c : Command} {rest : List HostInput}

theorem step_of_reset (h : s.inputs = .reset :: rest) :
    step s = .next ({ s with inputs := rest } : State).applyReset := by
  rw [step, State.takeInput_of_cons h]

theorem step_of_halted (h : s.inputs = .command c :: rest) (hhalt : s.halt = true) :
    step s = .next ({ s with inputs := rest } : State).refuse := by
  rw [step, State.takeInput_of_cons h]
  exact if_pos hhalt

theorem step_of_illegal {e : Reject} (h : s.inputs = .command c :: rest) (hhalt : s.halt = false)
    (hd : decode c.cmd = .error e) :
    step s = .next ((({ s with inputs := rest } : State).sample c).raiseFatal .illegalCommand) := by
  simp [step, State.takeInput_of_cons h, hhalt, hd]

theorem step_of_legal {i : Instr} (h : s.inputs = .command c :: rest) (hhalt : s.halt = false)
    (hd : decode c.cmd = .ok i) :
    step s = exec i (({ s with inputs := rest } : State).sample c) := by
  simp [step, State.takeInput_of_cons h, hhalt, hd]

end

/-! ### Reset and the step -/

/-- Settles O1: the table of 10_state R45, read off the reset state. -/
theorem resetLeavesSpecifiedValues : Obligations.ResetLeavesSpecifiedValues :=
  ⟨rfl, rfl, rfl, rfl, rfl, rfl, rfl, rfl, rfl⟩

theorem exec_next (i : Instr) (s : State) : ∃ t, exec i s = .next t := by
  obtain ⟨u, r0, r1, -, h⟩ | ⟨c, -, h⟩ := exec_cases i s
  · exact ⟨_, h⟩
  · exact ⟨_, h⟩

theorem step_next_of_cons {s : State} {input : HostInput} {rest : List HostInput}
    (h : s.inputs = input :: rest) : ∃ t, step s = .next t := by
  cases input with
  | reset => exact ⟨_, step_of_reset h⟩
  | command c =>
    cases hhalt : s.halt with
    | true => exact ⟨_, step_of_halted h hhalt⟩
    | false =>
      cases hd : decode c.cmd with
      | error e => exact ⟨_, step_of_illegal h hhalt hd⟩
      | ok i => exact step_of_legal h hhalt hd ▸ exec_next i _

/-- Settles O8: an empty list is the fault, and each thing the host can present has a next state. -/
theorem stepStopsOnlyWithoutInput : Obligations.StepStopsOnlyWithoutInput := by
  intro s
  constructor
  · rintro ⟨t, ht⟩ hnil
    rw [step_of_nil hnil] at ht
    cases ht
  · intro hne
    obtain ⟨input, rest, h⟩ := List.exists_cons_of_ne_nil hne
    exact step_next_of_cons h

/-- A command leaves the host's list as it is and counts itself exactly when it completes `OK`. -/
theorem exec_inputs_seq {i : Instr} {s t : State} (h : exec i s = .next t) :
    t.inputs = s.inputs ∧ t.seq = if t.stat = some .ok then s.seq + 1 else s.seq := by
  obtain ⟨u, r0, r1, hu, hexec⟩ | ⟨c, -, hexec⟩ := exec_cases i s
  · cases hexec.symm.trans h
    rw [hu.frame]
    exact ⟨rfl, rfl⟩
  · cases hexec.symm.trans h
    exact ⟨rfl, rfl⟩

/-- Settles O9: a refused and an illegal word end in a fatal `STAT`; an executed command counts. -/
theorem seqCountsCommandsCompletedOk : Obligations.SeqCountsCommandsCompletedOk := by
  intro s s' c rest hin hstep
  obtain ⟨_, h, -⟩ | ⟨_, _, h, -, rfl⟩ | ⟨_, _, _, h, -, -, rfl⟩ | ⟨_, _, _, h, -, -, hexec⟩ :=
    step_cases hstep
  · cases hin.symm.trans h
  · cases hin.symm.trans h
    exact ⟨rfl, rfl⟩
  · cases hin.symm.trans h
    exact ⟨rfl, rfl⟩
  · cases hin.symm.trans h
    exact exec_inputs_seq hexec

/-- A command that writes `MODE` or `BASE` is the selection of a mode while none is selected. -/
theorem exec_writes_mode {i : Instr} {s t : State} (h : exec i s = .next t)
    (hw : t.mode ≠ s.mode ∨ t.base ≠ s.base) : s.mode = .unsel ∧ ∃ m, i = .modeSelect m := by
  obtain ⟨u, r0, r1, hu, hexec⟩ | ⟨c, -, hexec⟩ := exec_cases i s
  · cases hexec.symm.trans h
    exact hu.mode_base.resolve_left fun ⟨hmode, hbase⟩ => hw.elim (· hmode) (· hbase)
  · cases hexec.symm.trans h
    simp at hw

/-- Settles O12: a refused and an illegal word write neither register; reset and executed
commands are left. -/
theorem onlyModeSelectAndResetWriteMode : Obligations.OnlyModeSelectAndResetWriteMode := by
  intro s s' hstep hw
  obtain ⟨rest, h, -⟩ | ⟨_, _, -, -, rfl⟩ | ⟨_, _, _, -, -, -, rfl⟩ |
    ⟨c, rest, i, h, hhalt, hd, hexec⟩ := step_cases hstep
  · exact .inl ⟨rest, h⟩
  · simp at hw
  · simp at hw
  · obtain ⟨hmode, m, rfl⟩ := exec_writes_mode hexec hw
    exact .inr ⟨c, rest, m, h, hhalt, hmode, hd⟩

/-! ### The operand ports a command names (10_state R23) -/

/-- The state with the words on the operand ports changed. -/
def State.mapPorts (f g : Word → Word) (s : State) : State :=
  { s with opa := f s.opa, opb := g s.opb }

section OperandPorts

variable (f g : Word → Word) (s : State)

theorem State.mapPorts_readReg (r : RoutedReg) :
    (s.mapPorts f g).readReg r = ((s.readReg r).1, (s.readReg r).2.mapPorts f g) := by
  by_cases h : s.mode = .x2apic
  · rw [State.readReg_x2apic h, State.readReg_x2apic (s := s.mapPorts f g) h]
    rfl
  · rw [State.readReg_memory h, State.readReg_memory (s := s.mapPorts f g) h]
    rfl

theorem State.mapPorts_writeReg (r : RoutedReg) (v : Word) :
    (s.mapPorts f g).writeReg r v = (s.writeReg r v).mapPorts f g := by
  rw [State.writeReg, State.writeReg, apply_ite (State.mapPorts f g)]
  rfl

theorem mapPorts_fenceAfter (r : RoutedReg) (w : Word) :
    fenceAfter r w (s.mapPorts f g) = (fenceAfter r w s).mapPorts f g := by
  rw [fenceAfter, fenceAfter, apply_ite (State.mapPorts f g)]
  rfl

/-- Changing nothing changes no outcome. -/
theorem mapNext_mapPorts_id (r : Result) : mapNext (State.mapPorts id id) r = r := by
  cases r <;> rfl

/-- A command does not notice a change of the ports that its checked part carries over. -/
theorem conclude_mapPorts {e e' : Except FatalCode State} (he : e' = State.mapPorts f g <$> e) :
    (s.mapPorts f g).conclude e' = mapNext (State.mapPorts f g) (s.conclude e) :=
  State.conclude_map (fun _ => rfl) he

end OperandPorts

/-- A change of the operand words carries over to a command's outcome when it is the identity on each port
that the command's rule names. -/
theorem exec_mapPorts {i : Instr} {f g : Word → Word} (s : State) (hf : usesOpa i = true → f = id)
    (hg : usesOpb i = true → g = id) :
    exec i (s.mapPorts f g) = mapNext (State.mapPorts f g) (exec i s) := by
  cases i with
  | modeSelect m =>
    cases m with
    | xapic =>
      obtain rfl := hf rfl
      obtain rfl := hg rfl
      exact (mapNext_mapPorts_id _).symm
    | x2apic =>
      have pointerUnread (p : DWord) :
          raiseIf (Backend.x2apic = .xapic ∧ getBits p 11 0 ≠ 0) .misalignedBase = .ok () :=
        raiseIf_of_not (fun h => nomatch h.1) _
      apply conclude_mapPorts
      simp only [pointerUnread, map_bind, map_pure]
      rfl
  | esrUnion | abaseAddr | icrGetdest | icrSend =>
    obtain rfl := hf rfl
    obtain rfl := hg rfl
    exact (mapNext_mapPorts_id _).symm
  | tdcEnc => rfl
  | regRd | esrClr | eoi =>
    apply conclude_mapPorts
    simp only [map_bind, map_pure, State.mapPorts_readReg, State.mapPorts_writeReg]
    rfl
  | regWr =>
    obtain rfl := hf rfl
    apply conclude_mapPorts
    simp only [map_bind, map_pure, State.mapPorts_writeReg, mapPorts_fenceAfter]
    rfl
  | icrBuild d =>
    have idUnread : buildHigh d (f s.opa) = buildHigh d s.opa := by
      by_cases hd : d.dkind = .explicitId
      · rw [hf (decide_eq_true hd)]
        rfl
      · rw [buildHigh, buildHigh, if_neg hd, if_neg hd]
    apply conclude_mapPorts
    simp only [map_bind, map_pure, State.mapPorts, idUnread]
    rfl
  | icrGetvec =>
    obtain rfl := hf rfl
    apply conclude_mapPorts
    simp only [map_bind, apply_ite (State.mapPorts id g <$> ·), map_pure]
    rfl
  | lvtGetvec | lvtSetvec | lvtGetdm | lvtSetdm | lvtGettm | lvtSettm | icrGetdm =>
    obtain rfl := hf rfl
    apply conclude_mapPorts
    simp only [map_bind, map_pure]
    rfl
  | _ =>
    obtain rfl := hf rfl
    rfl

/-- Settles O58: a port the rule does not name is one that the change need not spare. -/
theorem unnamedPortsAreIgnored : Obligations.UnnamedPortsAreIgnored := by
  intro i s t x ht
  constructor
  · intro hopa
    have spared := exec_mapPorts (f := fun _ => x) (g := id) s
      (fun hused => nomatch hopa.symm.trans hused) fun _ => rfl
    exact spared.trans (congrArg (mapNext _) ht)
  · intro hopb
    have spared := exec_mapPorts (f := id) (g := fun _ => x) s (fun _ => rfl)
      fun hused => nomatch hopb.symm.trans hused
    exact spared.trans (congrArg (mapNext _) ht)

end Sys2Proof.Machine
end

section
/-! 20_memory. The register map (R55), the addresses it gives (R56, R59) and what a command adds to the
trace (R50 to R54, R57, R64). -/

namespace Sys2Proof.Machine

/-! ### The register map (20_memory R55) -/

/-- Settles O54: the 15 rows of the table, each read off the map. -/
theorem defaultRegisterMap : Obligations.DefaultRegisterMap := by
  intro q hq
  fin_cases hq <;> exact ⟨_, rfl, rfl, rfl, rfl, rfl⟩

theorem msr_mem_indices (c : Config) (rr : RoutedReg) : c.msr rr ∈ c.indices := by
  cases rr <;> simp [Config.indices]

theorem icrHighMsr_mem_indices (c : Config) : c.x2IcrHighMsr ∈ c.indices := by
  simp [Config.indices]

theorem off_mem_offsets (c : Config) (rr : RoutedReg) : c.off rr ∈ c.offsets := by
  cases rr <;> simp [Config.offsets]

theorem icrHighOff_mem_offsets (c : Config) : c.regMap.icrHighOff ∈ c.offsets := by
  simp [Config.offsets]

/-- `LVT_TIMER` is behind one select code. -/
theorem eq_lvtTimer_of_routed {r : LogicalReg} (h : r.routed = some .lvtTimer) : r = .lvtTimer := by
  revert h
  cases r <;> decide

/-! ### Addresses in the mapped page (20_memory R56, R59) -/

theorem toNat_mod_of_aligned {w : Nat} {x : BitVec w} {n : Nat} (h : x.extractLsb' 0 n = 0) :
    x.toNat % 2 ^ n = 0 := by
  simpa using congrArg BitVec.toNat h

/-- An admissible offset is a multiple of 16. -/
theorem offset_mod_of_wf {c : Config} (h : c.wf = true) {o : BitVec 12} (ho : o ∈ c.offsets) :
    o.toNat % 16 = 0 :=
  toNat_mod_of_aligned (n := 4) (beq_iff_eq.1 (List.all_eq_true.1 h o ho))

section AlignedBase

variable {s : State} (h : s.base.extractLsb' 0 12 = 0) (o : BitVec 12)

include h

/-- An aligned base leaves room for every offset below the next page. -/
theorem pageAddr_toNat : (s.pageAddr o).toNat = s.base.toNat + o.toNat := by
  have aligned := toNat_mod_of_aligned h
  rw [State.pageAddr, BitVec.toNat_add, BitVec.toNat_setWidth_of_le (by decide)]
  omega

/-- The place of an address in its page is the offset it was formed with. -/
theorem pageAddr_pageOffset : (s.pageAddr o).extractLsb' 0 12 = o := by
  have aligned := toNat_mod_of_aligned h
  apply BitVec.eq_of_toNat_eq
  rw [BitVec.extractLsb'_toNat, pageAddr_toNat h, Nat.shiftRight_zero]
  omega

/-- Base and offset have no bit in common: one has none below bit 12, the other none from it on. -/
theorem base_and_offset : s.base &&& o.setWidth 64 = 0 := by
  apply BitVec.eq_of_getLsbD_eq
  intro i _
  by_cases hi : i < 12
  · have low : s.base.getLsbD i = false := by
      simpa [hi] using congrArg (BitVec.getLsbD · i) h
    simp [low]
  · have high : o.getLsbD i = false := BitVec.getLsbD_of_ge o i (by omega)
    simp [high]

theorem pageAddr_eq_or : s.pageAddr o = s.base ||| o.setWidth 64 :=
  BitVec.add_eq_or_of_and_eq_zero _ _ (base_and_offset h o)

end AlignedBase

/-- Settles O55: base and offset share no bit, and both are multiples of 16. -/
theorem pageAddressesNeverCarry : Obligations.PageAddressesNeverCarry := by
  intro s rr hinv
  have sum := pageAddr_toNat hinv.baseAligned (s.config.off rr)
  have base := toNat_mod_of_aligned hinv.baseAligned
  have off := offset_mod_of_wf hinv.configWf (off_mem_offsets s.config rr)
  exact ⟨pageAddr_eq_or hinv.baseAligned _, sum, by omega⟩

/-! ### The accesses a command may add to the trace (20_memory R50 to R54, R57) -/

/-- The transaction is of the kind the mode allows and, when the base is aligned, one of the map. -/
def Transaction.Permitted (s : State) (x : Transaction) : Prop :=
  x.allowedIn s.mode = true ∧ (s.base.extractLsb' 0 12 = 0 → x.routed s.config = true)

/-- The transaction is permitted and no fence. -/
def Transaction.Access (s : State) (x : Transaction) : Prop :=
  x.Permitted s ∧ x ≠ .fence

section Accesses

variable {s : State}

theorem xapic_of_selected (hmode : s.mode ≠ .unsel) (h : s.mode ≠ .x2apic) : s.mode = .xapic := by
  cases hm : s.mode with
  | unsel => exact absurd hm hmode
  | xapic => rfl
  | x2apic => exact absurd hm h

theorem access_msrRead (hmode : s.mode = .x2apic) {idx : Word} (h : idx ∈ s.config.indices) :
    (Transaction.msrRead idx).Access s :=
  ⟨⟨beq_iff_eq.2 hmode, fun _ => List.contains_iff_mem.2 h⟩, nofun⟩

theorem access_msrWrite (hmode : s.mode = .x2apic) {idx : Word} (h : idx ∈ s.config.indices)
    (v : DWord) : (Transaction.msrWrite idx v).Access s :=
  ⟨⟨beq_iff_eq.2 hmode, fun _ => List.contains_iff_mem.2 h⟩, nofun⟩

/-- In an aligned page the address of a register is at its offset of the map. -/
theorem pageAddr_contained (hbase : s.base.extractLsb' 0 12 = 0) {o : BitVec 12}
    (h : o ∈ s.config.offsets) :
    s.config.offsets.contains ((s.pageAddr o).extractLsb' 0 12) = true :=
  List.contains_iff_mem.2 ((pageAddr_pageOffset hbase o).symm ▸ h)

theorem access_memRead (hmode : s.mode = .xapic) {o : BitVec 12} (h : o ∈ s.config.offsets) :
    (Transaction.memRead (s.pageAddr o)).Access s :=
  ⟨⟨beq_iff_eq.2 hmode, fun hbase => pageAddr_contained hbase h⟩, nofun⟩

theorem access_memWrite (hmode : s.mode = .xapic) {o : BitVec 12} (h : o ∈ s.config.offsets)
    (v : Word) : (Transaction.memWrite (s.pageAddr o) v).Access s :=
  ⟨⟨beq_iff_eq.2 hmode, fun hbase => pageAddr_contained hbase h⟩, nofun⟩

theorem permitted_fence (hmode : s.mode ≠ .unsel) : Transaction.fence.Permitted s :=
  ⟨bne_iff_ne.2 hmode, fun _ => rfl⟩

/-- A register is read by one access of the mode selected (44_mode_dispatch R212). -/
theorem readReg_adds_access (hmode : s.mode ≠ .unsel) (rr : RoutedReg) :
    ∃ x, (s.readReg rr).2.trace = s.trace ++ [x] ∧ x.Access s := by
  refine ⟨_, s.readReg_trace rr, ?_⟩
  split
  case isTrue h => exact access_msrRead h (msr_mem_indices _ rr)
  case isFalse h => exact access_memRead (xapic_of_selected hmode h) (off_mem_offsets _ rr)

/-- A register is written by one access of the mode selected (44_mode_dispatch R218). -/
theorem writeReg_adds_access (hmode : s.mode ≠ .unsel) (rr : RoutedReg) (v : Word) :
    ∃ x, (s.writeReg rr v).trace = s.trace ++ [x] ∧ x.Access s := by
  refine ⟨_, s.writeReg_trace rr v, ?_⟩
  split
  case isTrue h => exact access_msrWrite h (msr_mem_indices _ rr) _
  case isFalse h => exact access_memWrite (xapic_of_selected hmode h) (off_mem_offsets _ rr) _

end Accesses

/-- What the command may add to the trace in this state. -/
structure Addition (s : State) (i : Instr) (ts : List Transaction) : Prop where
  atMostTwo : ts.length ≤ 2
  permitted : ∀ x ∈ ts, x.Permitted s
  fenceOfTimer : Transaction.fence ∈ ts → i = .regWr .lvtTimer

section Additions

variable {s : State} {i : Instr}

theorem addition_nil : Addition s i [] :=
  ⟨Nat.zero_le 2, nofun, nofun⟩

theorem addition_one {x : Transaction} (h : x.Access s) : Addition s i [x] where
  atMostTwo := by simp
  permitted := by simpa using h.1
  fenceOfTimer hf := absurd (List.mem_singleton.1 hf).symm h.2

theorem addition_two {x y : Transaction} (hx : x.Access s) (hy : y.Access s) :
    Addition s i [x, y] where
  atMostTwo := by simp
  permitted := by simpa using And.intro hx.1 hy.1
  fenceOfTimer hf := by simp [hx.2.symm, hy.2.symm] at hf

theorem addition_fenced {x : Transaction} (hmode : s.mode ≠ .unsel) (h : x.Access s)
    (hi : i = .regWr .lvtTimer) : Addition s i [x, .fence] where
  atMostTwo := by simp
  permitted := by simpa using And.intro h.1 (permitted_fence hmode)
  fenceOfTimer _ := hi

/-- A register write adds its access, and a fence behind it for the timer entry alone
(44_mode_dispatch R219). -/
theorem fenceAfter_writeReg_adds {r : LogicalReg} {rr : RoutedReg} (hmode : s.mode ≠ .unsel)
    (hr : r.routed = some rr) (w : Word) :
    ∃ ts, (fenceAfter rr w (s.writeReg rr w)).trace = s.trace ++ ts ∧ Addition s (.regWr r) ts := by
  obtain ⟨x, htrace, hx⟩ := writeReg_adds_access hmode rr w
  by_cases ht : rr = .lvtTimer ∧ timerField w = 0b10#32
  · have timer := eq_lvtTimer_of_routed (hr.trans (congrArg some ht.1))
    refine ⟨[x, .fence], ?_, addition_fenced hmode hx (congrArg Instr.regWr timer)⟩
    rw [fenceAfter, if_pos ht, State.fence, State.emit_trace, htrace, List.append_assoc]
    rfl
  · exact ⟨[x], by rw [fenceAfter, if_neg ht, htrace], addition_one hx⟩

/-- The x2APIC send adds one write or two, as the parameter says (44_mode_dispatch R221). -/
theorem sendX2_adds (hmode : s.mode = .x2apic) :
    ∃ ts, (sendX2 s).trace = s.trace ++ ts ∧ Addition s i ts := by
  have low (v : DWord) := access_msrWrite hmode (msr_mem_indices s.config .icr) v
  cases hform : s.config.x2IcrForm with
  | split =>
    have high := access_msrWrite hmode (icrHighMsr_mem_indices s.config) (s.opb.setWidth 64)
    refine ⟨_, ?_, addition_two high (low (s.opa.setWidth 64))⟩
    rw [sendX2_split hform]
    exact List.append_assoc ..
  | merged => exact ⟨_, by rw [sendX2_merged hform]; rfl, addition_one (low _)⟩

/-- The xAPIC send adds two writes (44_mode_dispatch R222). -/
theorem sendXapic_adds (hmode : s.mode = .xapic) :
    ∃ ts, (sendXapic s).trace = s.trace ++ ts ∧ Addition s i ts :=
  ⟨_, List.append_assoc .., addition_two (access_memWrite hmode (icrHighOff_mem_offsets _) _)
    (access_memWrite hmode (off_mem_offsets _ .icr) _)⟩

end Additions

/-! ### The trace of a command and of a step (20_memory R57, R64) -/

/-- What each effect adds to the trace: the pure commands and the selection of a mode nothing. -/
theorem Effect.adds {s u : State} {i : Instr} (h : Effect s i u) :
    ∃ ts, u.trace = s.trace ++ ts ∧ Addition s i ts := by
  cases h with
  | pure => exact ⟨[], (List.append_nil _).symm, addition_nil⟩
  | select => exact ⟨[], by simp, addition_nil⟩
  | @read r rr hmode =>
    obtain ⟨x, htrace, hx⟩ := readReg_adds_access hmode rr
    exact ⟨[x], htrace, addition_one hx⟩
  | write hmode hr => exact fenceAfter_writeReg_adds hmode hr _
  | clearEsr hmode | eoi hmode =>
    obtain ⟨x, htrace, hx⟩ := writeReg_adds_access hmode _ 0
    exact ⟨[x], htrace, addition_one hx⟩
  | sendX2 hmode => exact sendX2_adds hmode
  | sendXapic hmode => exact sendXapic_adds hmode

/-- A command adds what its effect adds; a fatal adds nothing (60_exceptions R252). -/
theorem exec_adds {i : Instr} {s t : State} (h : exec i s = .next t) :
    ∃ ts, t.trace = s.trace ++ ts ∧ Addition s i ts := by
  obtain ⟨u, r0, r1, hu, hexec⟩ | ⟨c, -, hexec⟩ := exec_cases i s
  · cases hexec.symm.trans h
    exact hu.adds
  · cases hexec.symm.trans h
    exact ⟨[], (List.append_nil _).symm, addition_nil⟩

/-- Settles O60: what a command adds is inside the map because the invariant keeps the base aligned. -/
theorem transactionsMatchMode : Obligations.TransactionsMatchMode := by
  intro i s t hinv hexec
  obtain ⟨ts, htrace, hadd⟩ := exec_adds hexec
  refine ⟨ts, htrace, hadd.atMostTwo, fun x hx => ?_, hadd.fenceOfTimer⟩
  obtain ⟨hmode, hmap⟩ := hadd.permitted x hx
  exact ⟨hmode, hmap hinv.baseAligned⟩

/-- Settles O14: reset, a refusal and an illegal word add nothing; an executed command is left. -/
theorem traceOnlyGrows : Obligations.TraceOnlyGrows := by
  intro s s' hstep
  obtain ⟨_, -, rfl⟩ | ⟨_, _, -, -, rfl⟩ | ⟨_, _, _, -, -, -, rfl⟩ | ⟨_, _, _, -, -, -, hexec⟩ :=
    step_cases hstep
  · exact ⟨[], Nat.zero_le 2, by simp⟩
  · exact ⟨[], Nat.zero_le 2, by simp⟩
  · exact ⟨[], Nat.zero_le 2, by simp⟩
  · obtain ⟨ts, htrace, hadd⟩ := exec_adds hexec
    exact ⟨ts, hadd.atMostTwo, htrace⟩

end Sys2Proof.Machine
end

section
/-! 30_encoding. The decoder and the encoder are inverse to each other (R81 to R88), the words outside
the opcode map are rejected (R96), and the example words (R100) decode as written. -/

namespace Sys2Proof

/-! ### Every accepted code is the code of its name (30_encoding R82 to R84) -/

theorem Backend.code_of_ofCode {b : Byte} {m : Backend} (h : Backend.ofCode b = some m) :
    m.code = b := by
  unfold Backend.ofCode at h
  split at h <;> cases h
  all_goals exact BitVec.eq_of_toNat_eq (Eq.symm ‹_›)

theorem LvtKind.code_of_ofCode {sel : BitVec 5} {k : LvtKind} (h : LvtKind.ofCode sel = some k) :
    k.code = sel := by
  unfold LvtKind.ofCode at h
  split at h <;> cases h
  all_goals exact BitVec.eq_of_toNat_eq (Eq.symm ‹_›)

theorem LogicalReg.code_of_ofCode {sel : BitVec 5} {r : LogicalReg}
    (h : LogicalReg.ofCode sel = some r) : r.code = sel := by
  unfold LogicalReg.ofCode at h
  split at h <;> cases h
  all_goals exact BitVec.eq_of_toNat_eq (Eq.symm ‹_›)

theorem DeliveryMode.code_toNat_of_ofCode {n : Nat} {d : DeliveryMode}
    (h : DeliveryMode.ofCode n = some d) : d.code.toNat = n := by
  unfold DeliveryMode.ofCode at h
  split at h <;> cases h <;> rfl

theorem DeliveryMode.code_of_ofCode {c : BitVec 3} {d : DeliveryMode}
    (h : DeliveryMode.ofCode c.toNat = some d) : d.code = c :=
  BitVec.eq_of_toNat_eq (DeliveryMode.code_toNat_of_ofCode h)

theorem DeliveryMode.code_setWidth_of_ofCode {b : Byte} {d : DeliveryMode}
    (h : DeliveryMode.ofCode b.toNat = some d) : d.code.setWidth 8 = b :=
  BitVec.eq_of_toNat_eq <|
    (BitVec.toNat_setWidth_of_le (by decide)).trans (DeliveryMode.code_toNat_of_ofCode h)

theorem TimerMode.code_of_ofCode {b : Byte} {t : TimerMode} (h : TimerMode.ofCode b = some t) :
    t.code.setWidth 8 = b := by
  unfold TimerMode.ofCode at h
  split at h <;> cases h
  all_goals exact BitVec.eq_of_toNat_eq (Eq.symm ‹_›)

theorem code_of_maskBitOfCode {b : Byte} {m : Bool} (h : maskBitOfCode b = some m) :
    (BitVec.ofBool m).setWidth 8 = b := by
  unfold maskBitOfCode at h
  split at h <;> cases h
  all_goals exact BitVec.eq_of_toNat_eq (Eq.symm ‹_›)

theorem code_of_indexOfCode {b : Byte} {i : Fin 8} (h : indexOfCode b = some i) :
    BitVec.ofNat 8 i.val = b := by
  unfold indexOfCode at h
  split at h <;> cases h
  simp

theorem DestinationMode.bit_ofBit (b : Bool) : (DestinationMode.ofBit b).bit = b := by
  cases b <;> rfl

theorem TriggerMode.bit_ofBit (b : Bool) : (TriggerMode.ofBit b).bit = b := by
  cases b <;> rfl

theorem AssertMode.bit_ofBit (b : Bool) : (AssertMode.ofBit b).bit = b := by
  cases b <;> rfl

theorem DestinationKind.code_ofCode (c : BitVec 2) : (DestinationKind.ofCode c).code = c := by
  revert c; decide

/-! ### A word is put together from the fields of its format (30_encoding R81, R88) -/

theorem opField_eq_ofNat {w : Word} {n : Nat} (h : (opField w).toNat = n) :
    opField w = BitVec.ofNat 8 n := by
  rw [← h, BitVec.ofNat_toNat, BitVec.setWidth_eq]

/-- A slice put back at its place is the word at the bits of the slice. -/
theorem field_extractLsb' (w : Word) (lo n : Nat) :
    field (w.extractLsb' lo n) lo = w &&& field (BitVec.allOnes n) lo := by
  apply BitVec.eq_of_getLsbD_eq
  intro i hi
  rw [BitVec.getLsbD_and, field_getLsbD, field_getLsbD, BitVec.getLsbD_extractLsb',
    BitVec.getLsbD_allOnes]
  by_cases hlo : lo ≤ i
  · simp [hi, hlo, Nat.add_sub_cancel' hlo, Bool.and_comm]
  · simp [hlo]

/-- A flag put back at its place is the word at that bit. -/
theorem field_bitField (w : Word) (i : Nat) :
    field (BitVec.ofBool (bitField w i)) i = w &&& field (BitVec.allOnes 1) i := by
  rw [← field_extractLsb']
  congr 1
  apply BitVec.eq_of_getLsbD_eq
  intro j hj
  obtain rfl : j = 0 := by omega
  simp [bitField]

/-- With its must-be-zero bits clear, a word is its opcode and the bits its format leaves free. -/
theorem eq_opcode_or_free {mask w : Word} (h : reservedClear mask w = true) :
    field (opField w) 0 ||| (w &&& ~~~mask) = w := by
  have opcode : w &&& mask = field (opField w) 0 :=
    ((reservedClear_iff mask w).1 h).trans (BitVec.shiftLeft_zero _).symm
  rw [← opcode, ← BitVec.and_or_distrib_left, BitVec.or_not_self, BitVec.and_allOnes]

theorem encodeZ_opField {w : Word} (h : reservedClear maskZ w = true) :
    encodeZ (opField w) = w := by
  have word := eq_opcode_or_free h
  rwa [show ~~~maskZ = 0#32 by decide, BitVec.and_zero, BitVec.or_zero] at word

theorem encodeS_fields {w : Word} (h : reservedClear maskS w = true) :
    encodeS (opField w) (selField w) = w := by
  have free : ~~~maskS = field (BitVec.allOnes 5) 8 := by decide
  rw [encodeS, selField, field_extractLsb', ← free, eq_opcode_or_free h]

theorem encodeI_fields {w : Word} (h : reservedClear maskI w = true) :
    encodeI (opField w) (immField w) = w := by
  have free : ~~~maskI = field (BitVec.allOnes 8) 16 := by decide
  rw [encodeI, immField, field_extractLsb', ← free, eq_opcode_or_free h]

theorem encodeSI_fields {w : Word} (h : reservedClear maskSI w = true) :
    encodeSI (opField w) (selField w) (immField w) = w := by
  have free : ~~~maskSI = field (BitVec.allOnes 5) 8 ||| field (BitVec.allOnes 8) 16 := by decide
  rw [encodeSI, selField, immField, field_extractLsb', field_extractLsb', BitVec.or_assoc,
    ← BitVec.and_or_distrib_left, ← free, eq_opcode_or_free h]

/-- A description with the fields of the word is put together to the word. -/
theorem encodeC_fields {w : Word} {d : IcrDescription} (h : reservedClear maskC w = true)
    (vp : d.vp = bitField w 8) (dm : d.dm.code = dmField w) (dstm : d.dstm.bit = bitField w 12)
    (trig : d.trig.bit = bitField w 13) (asrt : d.asrt.bit = bitField w 14)
    (vec : d.vec = immField w) (dkind : d.dkind.code = dkindField w) :
    encodeC (opField w) d = w := by
  have free : ~~~maskC = field (BitVec.allOnes 1) 8 ||| field (BitVec.allOnes 3) 9
      ||| field (BitVec.allOnes 1) 12 ||| field (BitVec.allOnes 1) 13
      ||| field (BitVec.allOnes 1) 14 ||| field (BitVec.allOnes 8) 16
      ||| field (BitVec.allOnes 2) 24 := by decide
  rw [encodeC, vp, dm, dstm, trig, asrt, vec, dkind, dmField, immField, dkindField]
  simp only [field_bitField, field_extractLsb', BitVec.or_assoc, ← BitVec.and_or_distrib_left]
  simpa only [free, BitVec.or_assoc] using eq_opcode_or_free h

/-! ### Decoding what the encoder wrote, format by format (30_encoding R81, R87) -/

theorem decodeZ_encodeZ (op : Byte) (i : Instr) : decodeZ (encodeZ op) i = .ok i :=
  if_pos (reservedClear_encodeZ op)

theorem decodeKind_encodeS (op : Byte) (k : LvtKind) (mk : LvtKind → Instr) :
    decodeKind (encodeS op k.code) mk = .ok (mk k) := by
  rw [decodeKind, if_pos (reservedClear_encodeS ..), selField_encodeS, LvtKind.ofCode_code]

theorem decodeReg_encodeS (op : Byte) (r : LogicalReg) (mk : LogicalReg → Instr) :
    decodeReg (encodeS op r.code) mk = .ok (mk r) := by
  rw [decodeReg, if_pos (reservedClear_encodeS ..), selField_encodeS, LogicalReg.ofCode_code]

theorem decodeI_encodeI {α : Type} {read : Byte → Option α} {imm : Byte} {a : α}
    (h : read imm = some a) (op : Byte) (mk : α → Instr) :
    decodeI (encodeI op imm) read mk = .ok (mk a) := by
  rw [decodeI, if_pos (reservedClear_encodeI ..), immField_encodeI, h]

theorem decodeSI_encodeSI {α : Type} {read : Byte → Option α} {imm : Byte} {a : α}
    (h : read imm = some a) (op : Byte) (k : LvtKind) (mk : LvtKind → α → Instr) :
    decodeSI (encodeSI op k.code imm) read mk = .ok (mk k a) := by
  rw [decodeSI, if_pos (reservedClear_encodeSI ..), selField_encodeSI, immField_encodeSI,
    LvtKind.ofCode_code, h]

theorem decodeC_encodeC (op : Byte) {d : IcrDescription} (h : d.wellFormed = true) :
    decodeC (encodeC op d) = .ok (.icrBuild d) := by
  simp only [decodeC, reservedClear_encodeC, dmField_encodeC, dkindField_encodeC, immField_encodeC,
    bitField_8_encodeC, bitField_12_encodeC, bitField_13_encodeC, bitField_14_encodeC,
    DeliveryMode.ofCode_code, DestinationMode.ofBit_bit, TriggerMode.ofBit_bit,
    AssertMode.ofBit_bit, DestinationKind.ofCode_code, h, if_true]

/-- Settles O16: the opcode of the word leads to the row of the command, whose format reads back the
fields that were written. -/
theorem decodeOfEncodeIsIdentity : Obligations.DecodeOfEncodeIsIdentity := by
  intro i hwf
  cases i with
  | modeSelect m =>
    simp only [decode, encode, opField_encodeI]
    exact decodeI_encodeI (Backend.ofCode_code m) ..
  | esrTest n | tdcEnc n =>
    simp only [decode, encode, opField_encodeI]
    exact decodeI_encodeI (indexOfCode_code n) ..
  | icrSipi v =>
    simp only [decode, encode, opField_encodeI]
    exact decodeI_encodeI rfl ..
  | lvtGetvec k | lvtGetds k | lvtGetmask k | lvtGetdm k | lvtGettm k =>
    simp only [decode, encode, opField_encodeS]
    exact decodeKind_encodeS ..
  | lvtSetvec k v =>
    simp only [decode, encode, opField_encodeSI]
    exact decodeSI_encodeSI rfl ..
  | lvtSetmask k m =>
    simp only [decode, encode, opField_encodeSI]
    exact decodeSI_encodeSI (maskBitOfCode_code m) ..
  | lvtSetdm k d =>
    simp only [decode, encode, opField_encodeSI]
    exact decodeSI_encodeSI (DeliveryMode.ofCode_code_byte d) ..
  | lvtSettm k t =>
    simp only [decode, encode, opField_encodeSI]
    exact decodeSI_encodeSI (TimerMode.ofCode_code t) ..
  | icrBuild d =>
    simp only [decode, encode, opField_encodeC]
    exact decodeC_encodeC _ hwf
  | regRd r | regWr r =>
    simp only [decode, encode, opField_encodeS]
    exact decodeReg_encodeS ..
  | _ =>
    simp only [decode, encode, opField_encodeZ]
    exact decodeZ_encodeZ ..

/-! ### A word that a format accepts is the one the encoder writes (30_encoding R88, R96) -/

section Accepted

variable {w : Word} {j : Instr} {op : Byte}

theorem encode_of_decodeZ {i : Instr} (h : decodeZ w i = .ok j)
    (hi : i.wellFormed = true ∧ encode i = encodeZ op) (hop : opField w = op) :
    j.wellFormed = true ∧ encode j = w := by
  subst hop
  obtain ⟨rfl, hr⟩ := decodeZ_ok h
  exact ⟨hi.1, hi.2.trans (encodeZ_opField hr)⟩

theorem encode_of_decodeKind {mk : LvtKind → Instr} (h : decodeKind w mk = .ok j)
    (hmk : ∀ k, (mk k).wellFormed = true ∧ encode (mk k) = encodeS op k.code)
    (hop : opField w = op) : j.wellFormed = true ∧ encode j = w := by
  subst hop
  obtain ⟨k, hk, rfl, hr⟩ := decodeKind_ok h
  obtain ⟨hwf, henc⟩ := hmk k
  rw [LvtKind.code_of_ofCode hk, encodeS_fields hr] at henc
  exact ⟨hwf, henc⟩

theorem encode_of_decodeReg {mk : LogicalReg → Instr} (h : decodeReg w mk = .ok j)
    (hmk : ∀ r, (mk r).wellFormed = true ∧ encode (mk r) = encodeS op r.code)
    (hop : opField w = op) : j.wellFormed = true ∧ encode j = w := by
  subst hop
  obtain ⟨r, hrd, rfl, hr⟩ := decodeReg_ok h
  obtain ⟨hwf, henc⟩ := hmk r
  rw [LogicalReg.code_of_ofCode hrd, encodeS_fields hr] at henc
  exact ⟨hwf, henc⟩

theorem encode_of_decodeI {α : Type} {read : Byte → Option α} {code : α → Byte} {mk : α → Instr}
    (h : decodeI w read mk = .ok j) (hcode : ∀ {b a}, read b = some a → code a = b)
    (hmk : ∀ a, (mk a).wellFormed = true ∧ encode (mk a) = encodeI op (code a))
    (hop : opField w = op) : j.wellFormed = true ∧ encode j = w := by
  subst hop
  obtain ⟨a, ha, rfl, hr⟩ := decodeI_ok h
  obtain ⟨hwf, henc⟩ := hmk a
  rw [hcode ha, encodeI_fields hr] at henc
  exact ⟨hwf, henc⟩

theorem encode_of_decodeSI {α : Type} {read : Byte → Option α} {code : α → Byte}
    {mk : LvtKind → α → Instr} (h : decodeSI w read mk = .ok j)
    (hcode : ∀ {b a}, read b = some a → code a = b)
    (hmk : ∀ k a, (mk k a).wellFormed = true ∧ encode (mk k a) = encodeSI op k.code (code a))
    (hop : opField w = op) : j.wellFormed = true ∧ encode j = w := by
  subst hop
  obtain ⟨k, a, hk, ha, rfl, hr⟩ := decodeSI_ok h
  obtain ⟨hwf, henc⟩ := hmk k a
  rw [LvtKind.code_of_ofCode hk, hcode ha, encodeSI_fields hr] at henc
  exact ⟨hwf, henc⟩

theorem encode_of_decodeC (h : decodeC w = .ok j) (hop : opField w = 0x30) :
    j.wellFormed = true ∧ encode j = w := by
  obtain ⟨d, rfl, hwf, hr, dm, vp, dstm, trig, asrt, vec, dkind⟩ := decodeC_ok h
  refine ⟨hwf, ?_⟩
  rw [encode, ← hop]
  apply encodeC_fields hr vp (DeliveryMode.code_of_ofCode dm) _ _ _ vec
  · rw [dkind, DestinationKind.code_ofCode]
  · rw [dstm, DestinationMode.bit_ofBit]
  · rw [trig, TriggerMode.bit_ofBit]
  · rw [asrt, AssertMode.bit_ofBit]

end Accepted

/-- Settles O17: in each of the 35 rows the fields that were read, with the must-be-zero bits, are the
whole word. -/
theorem decodeAcceptsOnlyEncodings : Obligations.DecodeAcceptsOnlyEncodings := by
  intro w i h
  unfold decode at h
  split at h <;> rename_i hop
  -- format `I`: `MODE.SELECT`, `ESR.TEST` and `TDC.ENC`, `ICR.SIPI`
  case h_1 =>
    exact encode_of_decodeI h Backend.code_of_ofCode (fun _ => ⟨rfl, rfl⟩) (opField_eq_ofNat hop)
  case h_6 | h_8 =>
    exact encode_of_decodeI h code_of_indexOfCode (fun _ => ⟨rfl, rfl⟩) (opField_eq_ofNat hop)
  case h_24 =>
    exact encode_of_decodeI h (Option.some.inj · |>.symm) (fun _ => ⟨rfl, rfl⟩)
      (opField_eq_ofNat hop)
  -- format `S`: the commands on an entry's kind, then the two on a register
  case h_13 | h_15 | h_16 | h_18 | h_20 =>
    exact encode_of_decodeKind h (fun _ => ⟨rfl, rfl⟩) (opField_eq_ofNat hop)
  case h_31 | h_32 =>
    exact encode_of_decodeReg h (fun _ => ⟨rfl, rfl⟩) (opField_eq_ofNat hop)
  -- format `SI`: `LVT.SETVEC`, `LVT.SETMASK`, `LVT.SETDM`, `LVT.SETTM`
  case h_14 =>
    exact encode_of_decodeSI h (Option.some.inj · |>.symm) (fun _ _ => ⟨rfl, rfl⟩)
      (opField_eq_ofNat hop)
  case h_17 =>
    exact encode_of_decodeSI h code_of_maskBitOfCode (fun _ _ => ⟨rfl, rfl⟩) (opField_eq_ofNat hop)
  case h_19 =>
    exact encode_of_decodeSI h DeliveryMode.code_setWidth_of_ofCode (fun _ _ => ⟨rfl, rfl⟩)
      (opField_eq_ofNat hop)
  case h_21 =>
    exact encode_of_decodeSI h TimerMode.code_of_ofCode (fun _ _ => ⟨rfl, rfl⟩)
      (opField_eq_ofNat hop)
  case h_22 => exact encode_of_decodeC h (opField_eq_ofNat hop)
  case h_36 => cases h
  -- format `Z`
  all_goals exact encode_of_decodeZ h ⟨rfl, rfl⟩ (opField_eq_ofNat hop)

/-! ### Words outside the opcode map and the example words (30_encoding R96, R100) -/

/-- Settles O18: the 35 opcodes that `decode` names are all in the list. -/
theorem unassignedOpcodesAreRejected : Obligations.UnassignedOpcodesAreRejected := by
  intro w hw
  unfold decode
  split
  case h_36 => rfl
  all_goals
    rename_i hop
    rw [← opField, opField_eq_ofNat hop] at hw
    exact absurd (by decide) hw

/-- The word of a well-formed command decodes to it. -/
theorem decode_of_encode_eq {i : Instr} {w : Word} (h : encode i = w) (hwf : i.wellFormed = true) :
    decode w = .ok i :=
  h ▸ decodeOfEncodeIsIdentity i hwf

/-- Settles O19: each of the words is the encoding of its command. -/
theorem exampleWordsDecode : Obligations.ExampleWordsDecode := by
  and_intros <;> exact decode_of_encode_eq rfl rfl

end Sys2Proof
end

section
/-! 40_bitfield_primitives. The laws of the primitives (R114) and what each is in terms of the bits of
the word (R110 to R113). Every law is read off one characterisation of `setBits`, bit by bit. -/

namespace Sys2Proof.Machine

section BitFields

variable {W : Nat} {w w' w1 u v : BitVec W} {hi lo hi2 lo2 : Nat}

/-! ### What a write answers (R110, R111) -/

/-- A value fits a field exactly when all its bits above the field's width are clear. -/
theorem toNat_lt_two_pow_iff {n : Nat} :
    v.toNat < 2 ^ n ↔ ∀ i, n ≤ i → v.getLsbD i = false := by
  constructor
  · intro fits i hi'
    exact Nat.testBit_lt_two_pow (fits.trans_le (Nat.pow_le_pow_right (by decide) hi'))
  · exact Nat.lt_pow_two_of_testBit v.toNat

/-- What is read from a field fits it. -/
theorem getBits_toNat_lt (w : BitVec W) (hi lo : Nat) :
    (getBits w hi lo).toNat < 2 ^ (hi - lo + 1) := by
  refine toNat_lt_two_pow_iff.2 fun i above => ?_
  rw [getBits_getLsbD, decide_eq_false (by omega), Bool.false_and]

/-- A write into a field answers `w'` exactly when the value fits and `w'` holds the value in the field
and the bits of the old word elsewhere. -/
theorem setBits_eq_ok_iff (h : lo ≤ hi) :
    setBits w hi lo v = .ok w' ↔
      v.toNat < 2 ^ (hi - lo + 1) ∧
      ∀ i, i < W → w'.getLsbD i = if lo ≤ i ∧ i ≤ hi then v.getLsbD (i - lo) else w.getLsbD i := by
  have inField (i : Nat) : lo ≤ i ∧ i < lo + (hi - lo + 1) ↔ lo ≤ i ∧ i ≤ hi := by omega
  obtain ⟨fits, x, hx⟩ | ⟨wide, overflow⟩ := setBits_cases w hi lo v
  · have bits := setBits_getLsbD w x hi lo v hx
    simp only [inField] at bits
    constructor
    · intro hw
      cases hx.symm.trans hw
      exact ⟨fits, bits⟩
    · rintro ⟨-, bits'⟩
      rw [hx, BitVec.eq_of_getLsbD_eq fun i hi' => (bits i hi').trans (bits' i hi').symm]
  · rw [overflow]
    exact ⟨fun hw => (nomatch hw), fun ⟨fits, _⟩ => absurd fits wide⟩

/-! ### The laws (R114) -/

/-- Read-after-write. -/
theorem getBits_of_setBits (h : lo ≤ hi) (hhi : hi < W) (hw : setBits w hi lo v = .ok w') :
    getBits w' hi lo = v := by
  obtain ⟨fits, bits⟩ := (setBits_eq_ok_iff h).1 hw
  refine BitVec.eq_of_getLsbD_eq fun i _ => ?_
  rw [getBits_getLsbD]
  by_cases inside : i < hi - lo + 1
  · rw [decide_eq_true inside, Bool.true_and, bits _ (by omega), if_pos (by omega),
      Nat.add_sub_cancel_left]
  · rw [decide_eq_false inside, Bool.false_and, toNat_lt_two_pow_iff.1 fits i (by omega)]

/-- Frame: bits outside the field are kept, positions past the word included. -/
theorem getLsbD_of_setBits_outside (h : lo ≤ hi) (hw : setBits w hi lo v = .ok w') {j : Nat}
    (outside : j < lo ∨ hi < j) : w'.getLsbD j = w.getLsbD j := by
  obtain ⟨_, bits⟩ := (setBits_eq_ok_iff h).1 hw
  by_cases hj : j < W
  · rw [bits j hj, if_neg (by omega)]
  · rw [BitVec.getLsbD_of_ge w' j (by omega), BitVec.getLsbD_of_ge w j (by omega)]

/-- The last write wins: a write into the field before it leaves no mark. -/
theorem setBits_setBits_same (h : lo ≤ hi) (hu : setBits w hi lo u = .ok w1)
    (hv : setBits w hi lo v = .ok w') : setBits w1 hi lo v = .ok w' := by
  obtain ⟨fits, bits⟩ := (setBits_eq_ok_iff h).1 hv
  refine (setBits_eq_ok_iff h).2 ⟨fits, fun i hi' => ?_⟩
  rw [bits i hi']
  split
  · rfl
  · exact (getLsbD_of_setBits_outside h hu (by omega)).symm

/-- Writes to disjoint fields commute: where the two fields are, each write sees the old word. -/
theorem setBits_comm_of_disjoint (h : lo ≤ hi) (h2 : lo2 ≤ hi2) (disjoint : hi2 < lo ∨ hi < lo2)
    (hv : setBits w hi lo v = .ok w') (hu : setBits w hi2 lo2 u = .ok w1) :
    ∃ w2, setBits w1 hi lo v = .ok w2 ∧ setBits w' hi2 lo2 u = .ok w2 := by
  obtain ⟨fitsV, bitsV⟩ := (setBits_eq_ok_iff h).1 hv
  obtain ⟨fitsU, bitsU⟩ := (setBits_eq_ok_iff h2).1 hu
  have hw2 := setBits_of_fits w1 hi lo v fitsV
  obtain ⟨_, bits⟩ := (setBits_eq_ok_iff h).1 hw2
  refine ⟨_, hw2, (setBits_eq_ok_iff h2).2 ⟨fitsU, fun i hi' => ?_⟩⟩
  rw [bits i hi', bitsU i hi', bitsV i hi']
  by_cases inFirst : lo ≤ i ∧ i ≤ hi
  · rw [if_pos inFirst, if_neg (by omega), if_pos inFirst]
  · rw [if_neg inFirst, if_neg inFirst]

/-- Restore: writing back what was read changes nothing. -/
theorem setBits_getBits_self (w : BitVec W) (h : lo ≤ hi) :
    setBits w hi lo (getBits w hi lo) = .ok w := by
  refine (setBits_eq_ok_iff h).2 ⟨getBits_toNat_lt w hi lo, fun i _ => ?_⟩
  split
  next inside =>
    rw [getBits_getLsbD, decide_eq_true (by omega), Bool.true_and, Nat.add_sub_cancel' inside.1]
  next => rfl

/-! ### One bit (R112, R113) -/

/-- The bit read is bit 0 of a word that is 0 elsewhere. -/
theorem getBit_eq_ite (w : BitVec W) (i : Nat) :
    getBit w i = if w.getLsbD i then 1#W else 0#W := by
  refine BitVec.eq_of_getLsbD_eq fun j hj => ?_
  rw [getBit, getBits_getLsbD, Nat.sub_self]
  cases j with
  | zero => cases w.getLsbD i <;> simp [hj]
  | succ j => cases w.getLsbD i <;> simp

/-- Writing one bit is writing the one-bit field. -/
theorem setBits_single_eq_setBit (w : BitVec W) {i : Nat} (inWord : i < W) (b : Bool) :
    setBits w i i (if b then 1#W else 0#W) = .ok (setBit w i b) := by
  refine (setBits_eq_ok_iff le_rfl).2 ⟨?_, fun j hj => ?_⟩
  · cases b <;> simp [Nat.mod_le]
  · rw [setBit_getLsbD w i b j hj]
    by_cases same : j = i
    · subst same
      cases b <;> simp [show 0 < W by omega]
    · rw [if_neg same, if_neg (by omega)]

end BitFields

/-! ### The statements -/

/-- Settles O20: a fitting value is written, and each law is the lemma above of its name. -/
theorem bitFieldLaws : Obligations.BitFieldLaws := by
  intro W w hi lo v h hhi fits
  have hw := setBits_of_fits w hi lo v fits
  refine ⟨_, hw, getBits_of_setBits h hhi hw, ?frame, ?idempotent, ?lastWins, ?commute,
    setBits_getBits_self w h⟩
  case frame => exact fun j outside => getLsbD_of_setBits_outside h hw outside
  case idempotent => exact setBits_setBits_same h hw hw
  case lastWins => exact fun u w1 hu => setBits_setBits_same h hu hw
  case commute =>
    exact fun hi2 lo2 u w1 h2 _ disjoint hu => setBits_comm_of_disjoint h h2 disjoint hw hu

/-- Settles O21: the slice, the fatal of a value that does not fit, and the two one-bit primitives. -/
theorem bitFieldPrimitivesReadSlices : Obligations.BitFieldPrimitivesReadSlices := by
  intro W w hi lo _ hhi
  exact ⟨getBits_eq_extractLsb' w hi lo,
    fun v wide => setBits_of_overflow w hi lo v (Nat.not_lt.2 wide),
    getBit_eq_ite w hi,
    setBits_single_eq_setBit w hhi⟩

end Sys2Proof.Machine
end

section
/-! 41_register_value_types. The fields of the Version, ErrorStatus, TimerDivideConfiguration and
IA32_APIC_BASE words (R120 to R133), and the mode the host selects from the last (R134). -/

namespace Sys2Proof.Machine

/-! ### What each command drives -/

section Commands

variable (s : State)

theorem exec_verVersion : exec .verVersion s = .next (okState s (getBits s.opa 7 0) 0) := rfl

theorem exec_verMaxlvt : exec .verMaxlvt s = .next (okState s (getBits s.opa 23 16) 0) := rfl

theorem exec_verEoisup : exec .verEoisup s = .next (okState s (getBit s.opa 24) 0) := rfl

theorem exec_esrDec : exec .esrDec s = .next (okState s (flagSet s.opa) 0) := rfl

theorem exec_esrTest (i : Fin 8) :
    exec (.esrTest i) s = .next (okState s (getBit s.opa i.val) 0) := rfl

theorem exec_esrUnion : exec .esrUnion s = .next (okState s (flagUnion s.opa s.opb) 0) := rfl

theorem exec_tdcEnc (e : Fin 8) :
    exec (.tdcEnc e) s = .next (okState s (tdcPattern.getD e.val 0) 0) := rfl

theorem exec_tdcDec :
    exec .tdcDec s = .next (okState s (tdcExp.getD (tdcSelector s.opa).toNat 0)
      ((1 : Word) <<< (tdcExp.getD (tdcSelector s.opa).toNat 0).toNat)) := rfl

theorem exec_abaseEn : exec .abaseEn s = .next (okState s (getBit s.opa 11) 0) := rfl

theorem exec_abaseX2 : exec .abaseX2 s = .next (okState s (getBit s.opa 10) 0) := rfl

theorem exec_abaseAddr :
    exec .abaseAddr s = .next (okState s (lowWord (getBits (concat s.opb s.opa) 35 12 <<< 12))
      (highWord (getBits (concat s.opb s.opa) 35 12 <<< 12))) := rfl

end Commands

/-- `RES0` on a given operand word, of a command that completes `OK` on it. -/
theorem resultOn_of_exec {s : State} {i : Instr} {w r0 r1 : Word}
    (h : exec i { s with opa := w } = .next (okState { s with opa := w } r0 r1)) :
    resultOn s i w = some r0 := by
  rw [resultOn, h]
  rfl

/-! ### An immediate outside its set (30_encoding R83, R96) -/

theorem decodeI_encodeI_of_none {α : Type} {read : Byte → Option α} {imm : Byte}
    (h : read imm = none) (op : Byte) (mk : α → Instr) :
    decodeI (encodeI op imm) read mk = .error .immediateOutOfRange := by
  rw [decodeI, if_pos (reservedClear_encodeI ..), immField_encodeI, h]

theorem indexOfCode_eq_none {imm : Byte} (h : 7 < imm.toNat) : indexOfCode imm = none :=
  dif_neg (by omega)

theorem decode_esrTest_illegal {imm : Byte} (h : 7 < imm.toNat) :
    decode (encodeI 0x15 imm) = .error .immediateOutOfRange := by
  rw [decode, opField_encodeI]
  exact decodeI_encodeI_of_none (indexOfCode_eq_none h) ..

theorem decode_tdcEnc_illegal {imm : Byte} (h : 7 < imm.toNat) :
    decode (encodeI 0x18 imm) = .error .immediateOutOfRange := by
  rw [decode, opField_encodeI]
  exact decodeI_encodeI_of_none (indexOfCode_eq_none h) ..

/-! ### Version (R120 to R122) -/

/-- Settles O22: each command drives a field or a bit of `OPA`. -/
theorem versionFieldsRead : Obligations.VersionFieldsRead := by
  refine ⟨decode_of_encode_eq rfl rfl, decode_of_encode_eq rfl rfl, decode_of_encode_eq rfl rfl,
    fun s => ⟨?version, ?maxlvt, ?eoisup⟩⟩
  case version => rw [exec_verVersion, getBits_eq_extractLsb']
  case maxlvt => rw [exec_verMaxlvt, getBits_eq_extractLsb']
  case eoisup => rw [exec_verEoisup, getBit_eq_ite]; rfl

/-! ### ErrorStatus (R124 to R126) -/

theorem flagSet_eq_and (w : Word) : flagSet w = w &&& 0x000000FF := by
  rw [flagSet, getBits, BitVec.ushiftRight_zero]
  rfl

/-- Reserved bits can be dropped before or after the union. -/
theorem flagUnion_eq_and (a b : Word) : flagUnion a b = (a ||| b) &&& 0x000000FF := by
  rw [flagUnion, flagSet_eq_and, flagSet_eq_and, BitVec.and_or_distrib_right]

/-- Settles O23: the flag set is a mask of `OPA`, a test is one bit of it. -/
theorem errorStatusFlagsRead : Obligations.ErrorStatusFlagsRead := by
  refine ⟨decode_of_encode_eq rfl rfl, fun i => decodeOfEncodeIsIdentity (.esrTest i) rfl,
    fun imm h => ⟨_, decode_esrTest_illegal h⟩, fun s => ⟨?flags, fun i => ?test⟩⟩
  case flags => rw [exec_esrDec, flagSet_eq_and]
  case test => rw [exec_esrTest, getBit_eq_ite]; rfl

/-- Settles O24: the two flag sets are one mask of the two words' union. -/
theorem errorStatusUnion : Obligations.ErrorStatusUnion := by
  refine ⟨decode_of_encode_eq rfl rfl, fun s => ?_⟩
  rw [exec_esrUnion, flagUnion_eq_and]

/-! ### TimerDivideConfiguration (R128 to R130) -/

/-- Settles O25: the patterns are the rows of `tdcPattern`. -/
theorem divideConfigurationEncoded : Obligations.DivideConfigurationEncoded := by
  refine ⟨fun e => decodeOfEncodeIsIdentity (.tdcEnc e) rfl,
    fun imm h => ⟨_, decode_tdcEnc_illegal h⟩, fun s => ?_⟩
  and_intros <;> exact exec_tdcEnc s _

/-- The selector is read from the bits 3, 1 and 0 alone. -/
theorem tdcSelector_and_mask (w : Word) : tdcSelector (w &&& 0x0000000B) = tdcSelector w := by
  simp [tdcSelector, getBit_eq_ite]

/-- The bits 3, 1 and 0 of a word are always the pattern of an exponent. -/
theorem exists_tdcPattern (w : Word) :
    ∃ e : Fin 8, tdcPattern.getD e.val 0 = w &&& 0x0000000B := by
  have table : ∀ n : Fin 12, BitVec.ofNat 32 n.val &&& 0x0000000B = BitVec.ofNat 32 n.val →
      ∃ e : Fin 8, tdcPattern.getD e.val 0 = BitVec.ofNat 32 n.val := by decide
  have small : (w &&& 0x0000000B).toNat < 12 := by
    rw [BitVec.toNat_and]
    exact Nat.lt_succ_of_le Nat.and_le_right
  have masked := table ⟨_, small⟩
  rw [BitVec.ofNat_toNat, BitVec.setWidth_eq] at masked
  exact masked (by rw [BitVec.and_assoc, BitVec.and_self])

/-- A pattern has no bit but 3, 1 and 0. -/
theorem tdcPattern_and_mask (e : Fin 8) :
    tdcPattern.getD e.val 0 = tdcPattern.getD e.val 0 &&& 0x0000000B := by
  revert e; decide

/-- Every exponent has its row in the table. -/
theorem tdcPattern_getElem? (e : Fin 8) :
    tdcPattern[e.val]? = some (tdcPattern.getD e.val 0) := by
  revert e; decide

/-- `TDC_EXP` inverts `TDC_PATTERN`. -/
theorem tdcExp_tdcPattern (e : Fin 8) :
    tdcExp.getD (tdcSelector (tdcPattern.getD e.val 0)).toNat 0 = BitVec.ofNat 32 e.val := by
  revert e; decide

/-- What `TDC.DEC` drives on a word whose bits 3, 1 and 0 are the pattern of `e`. -/
theorem exec_tdcDec_of_pattern {s : State} {e : Fin 8}
    (h : tdcPattern.getD e.val 0 = s.opa &&& 0x0000000B) :
    exec .tdcDec s =
      .next (okState s (BitVec.ofNat 32 e.val) (BitVec.ofNat 32 (2 ^ e.val))) := by
  have divisor : ∀ e : Fin 8,
      (1 : Word) <<< (BitVec.ofNat 32 e.val).toNat = BitVec.ofNat 32 (2 ^ e.val) := by decide
  rw [exec_tdcDec, ← tdcSelector_and_mask, ← h, tdcExp_tdcPattern, divisor]

/-- Settles O26: the masked word is a pattern, and its exponent is what is driven. -/
theorem divideConfigurationDecoded : Obligations.DivideConfigurationDecoded := by
  refine ⟨decode_of_encode_eq rfl rfl, fun s => ?_⟩
  obtain ⟨e, he⟩ := exists_tdcPattern s.opa
  exact ⟨e, he ▸ tdcPattern_getElem? e, exec_tdcDec_of_pattern he⟩

/-- Settles O27: an encoded word is its own pattern, and a decoded one is replaced by its pattern. -/
theorem divideConfigurationRoundTrips : Obligations.DivideConfigurationRoundTrips := by
  refine ⟨fun s e w => ?encodeFirst, fun s w => ?decodeFirst⟩
  case encodeFirst =>
    exact ⟨_, resultOn_of_exec (exec_tdcEnc _ e),
      resultOn_of_exec (exec_tdcDec_of_pattern (tdcPattern_and_mask e))⟩
  case decodeFirst =>
    obtain ⟨e, he⟩ := exists_tdcPattern w
    exact ⟨e, resultOn_of_exec (exec_tdcDec_of_pattern he),
      he ▸ resultOn_of_exec (exec_tdcEnc _ e)⟩

/-! ### IA32_APIC_BASE (R131 to R133) -/

/-- A field kept at its place: the other bits are cleared. -/
theorem getBits_shiftLeft_getLsbD {W : Nat} (w : BitVec W) {hi lo : Nat} (h : lo ≤ hi) {i : Nat}
    (inWord : i < W) :
    (getBits w hi lo <<< lo).getLsbD i = (decide (lo ≤ i ∧ i ≤ hi) && w.getLsbD i) := by
  rw [BitVec.getLsbD_shiftLeft, getBits_getLsbD, decide_eq_true inWord, Bool.true_and]
  by_cases below : i < lo
  · simp [below, Nat.not_le.2 below]
  · have inField : i - lo < hi - lo + 1 ↔ i ≤ hi := by omega
    simp [below, Nat.not_lt.1 below, inField]

/-- `OPA` holds the address bits 31:12. -/
theorem lowWord_baseAddress (hi lo : Word) :
    lowWord (getBits (concat hi lo) 35 12 <<< 12) = lo &&& 0xFFFFF000 := by
  have mask : ∀ i < 32, (0xFFFFF000 : Word).getLsbD i = decide (12 ≤ i ∧ i ≤ 35) := by decide
  refine BitVec.eq_of_getLsbD_eq fun i inWord => ?_
  rw [lowWord, BitVec.getLsbD_setWidth, getBits_shiftLeft_getLsbD _ (by decide) (by omega),
    concat_getLsbD, if_pos inWord, BitVec.getLsbD_and, mask i inWord, decide_eq_true inWord,
    Bool.true_and, Bool.and_comm]

/-- `OPB` holds the address bits 35:32. -/
theorem highWord_baseAddress (hi lo : Word) :
    highWord (getBits (concat hi lo) 35 12 <<< 12) = hi &&& 0x0000000F := by
  have mask : ∀ i < 32, (0x0000000F : Word).getLsbD i = decide (12 ≤ 32 + i ∧ 32 + i ≤ 35) := by
    decide
  refine BitVec.eq_of_getLsbD_eq fun i inWord => ?_
  rw [highWord, BitVec.getLsbD_setWidth, BitVec.getLsbD_ushiftRight,
    getBits_shiftLeft_getLsbD _ (by decide) (by omega), concat_getLsbD, if_neg (by omega),
    Nat.add_sub_cancel_left, BitVec.getLsbD_and, mask i inWord, decide_eq_true inWord,
    Bool.true_and, Bool.and_comm]

/-- Settles O28: two bits of `OPA`, and the address field split over both ports. -/
theorem apicBaseFieldsRead : Obligations.ApicBaseFieldsRead := by
  refine ⟨decode_of_encode_eq rfl rfl, decode_of_encode_eq rfl rfl, decode_of_encode_eq rfl rfl,
    fun s => ⟨?enable, ?x2, ?address⟩⟩
  case enable => rw [exec_abaseEn, getBit_eq_ite]; rfl
  case x2 => rw [exec_abaseX2, getBit_eq_ite]; rfl
  case address => rw [exec_abaseAddr, lowWord_baseAddress, highWord_baseAddress]

/-! ### The mode the host selects (R134, 70_reset_and_hazards R294) -/

/-- Selecting x2APIC while no mode is selected checks nothing and keeps `BASE`
(44_mode_dispatch R210). -/
theorem execModeSelect_x2apic_of_unsel {s : State} (h : s.mode = .unsel) :
    execModeSelect .x2apic s = .next (okState { s with mode := .x2apic } 0 0) := by
  rw [execModeSelect, raiseIf_of_not (not_not.2 h), raiseIf_of_not fun hm => nomatch hm.1]
  rfl

/-- Selecting xAPIC while no mode is selected takes a page-aligned base pointer. -/
theorem execModeSelect_xapic_of_aligned {s : State} {p : DWord} (h : s.mode = .unsel)
    (pointer : s.basePointer = p) (aligned : p.extractLsb' 0 12 = 0) :
    execModeSelect .xapic s = .next (okState { s with mode := .xapic, base := p } 0 0) := by
  subst pointer
  exact (execModeSelect_xapic_of_unsel h).trans (if_pos aligned)

/-- The two operand words of a pointer are the pointer. -/
theorem append_halves (p : DWord) : (p >>> 32).setWidth 32 ++ p.setWidth 32 = p := by
  refine BitVec.eq_of_getLsbD_eq fun i inWord => ?_
  rw [BitVec.getLsbD_append]
  by_cases low : i < 32
  · simp [low]
  · simp [low, show i - 32 < 32 by omega, show 32 + (i - 32) = i by omega]

/-- With the default width, a pointer presented on the operand ports is the base pointer. -/
theorem State.basePointer_of_halves {s : State} {p : DWord} (width : s.config.baseWidth = 64)
    (low : s.opa = p.setWidth 32) (high : s.opb = (p >>> 32).setWidth 32) : s.basePointer = p := by
  rw [State.basePointer_of_default width, low, high, append_halves]

/-- The host's rule gives a mode only under a set enable bit, and the x2-enable bit names it. -/
theorem hostModeChoice_eq_some {hwEnabled x2Enabled : Bool} {m : Backend}
    (h : hostModeChoice hwEnabled x2Enabled = some m) :
    hwEnabled = true ∧ m = if x2Enabled then .x2apic else .xapic := by
  cases hwEnabled with
  | false => cases h
  | true => cases x2Enabled <;> cases h <;> exact ⟨rfl, rfl⟩

/-- Settles O15: the command is a `MODE.SELECT` of the named mode on an unselected block, and the two
modes are its two completions. -/
theorem bootCommandSelectsMode : Obligations.BootCommandSelectsMode := by
  intro msr ptr c boot aligned
  obtain ⟨m, choice, rfl⟩ := Option.map_eq_some_iff.1 boot
  obtain ⟨enabled, rfl⟩ := hostModeChoice_eq_some choice
  rw [step_of_legal rfl rfl (decodeOfEncodeIsIdentity (.modeSelect _) rfl)]
  cases msr.getLsbD 10 with
  | true => exact ⟨_, execModeSelect_x2apic_of_unsel rfl, rfl, enabled, fun _ => ⟨rfl, rfl⟩, nofun⟩
  | false =>
    exact ⟨_, execModeSelect_xapic_of_aligned rfl (State.basePointer_of_halves rfl rfl rfl) aligned,
      rfl, enabled, nofun, fun _ => ⟨rfl, rfl⟩⟩

end Sys2Proof.Machine
end

section
/-! 42_local_vector_table. What each command drives for every kind (R150 to R161), and the laws of
the fields of an entry (R162): a setter writes one field and is refused by checks that look at no word,
a getter looks at one field only. -/

namespace Sys2Proof

/-! ### An immediate outside its set (30_encoding R83, R96) -/

theorem decodeSI_encodeSI_of_none {α : Type} {read : Byte → Option α} {imm : Byte}
    (h : read imm = none) (op : Byte) (k : LvtKind) (mk : LvtKind → α → Instr) :
    decodeSI (encodeSI op k.code imm) read mk = .error .immediateOutOfRange := by
  rw [decodeSI, if_pos (reservedClear_encodeSI ..), selField_encodeSI, immField_encodeSI,
    LvtKind.ofCode_code, h]

theorem maskBitOfCode_eq_none {imm : Byte} (h : 1 < imm.toNat) : maskBitOfCode imm = none := by
  refine Option.eq_none_iff_forall_ne_some.2 fun m hm => absurd h ?_
  rw [← code_of_maskBitOfCode hm]
  cases m <;> decide

theorem DeliveryMode.ofCode_eq_none {imm : Byte} (h : imm = 3 ∨ 7 < imm.toNat) :
    DeliveryMode.ofCode imm.toNat = none := by
  refine Option.eq_none_iff_forall_ne_some.2 fun d hd => absurd h ?_
  rw [← DeliveryMode.code_setWidth_of_ofCode hd]
  cases d <;> decide

theorem TimerMode.ofCode_eq_none {imm : Byte} (h : 2 < imm.toNat) :
    TimerMode.ofCode imm = none := by
  refine Option.eq_none_iff_forall_ne_some.2 fun t ht => absurd h ?_
  rw [← TimerMode.code_of_ofCode ht]
  cases t <;> decide

theorem DeliveryMode.code_ne_reserved (d : DeliveryMode) : d.code.setWidth 32 ≠ 0b011#32 := by
  cases d <;> decide

theorem TimerMode.code_ne_reserved (t : TimerMode) : t.code.setWidth 32 ≠ 0b11#32 := by
  cases t <;> decide

section IllegalImmediates

variable (k : LvtKind) {imm : Byte}

theorem decode_lvtSetmask_illegal (h : 1 < imm.toNat) :
    decode (encodeSI 0x24 k.code imm) = .error .immediateOutOfRange := by
  rw [decode, opField_encodeSI]
  exact decodeSI_encodeSI_of_none (maskBitOfCode_eq_none h) ..

theorem decode_lvtSetdm_illegal (h : imm = 3 ∨ 7 < imm.toNat) :
    decode (encodeSI 0x26 k.code imm) = .error .immediateOutOfRange := by
  rw [decode, opField_encodeSI]
  exact decodeSI_encodeSI_of_none (DeliveryMode.ofCode_eq_none h) ..

theorem decode_lvtSettm_illegal (h : 2 < imm.toNat) :
    decode (encodeSI 0x28 k.code imm) = .error .immediateOutOfRange := by
  rw [decode, opField_encodeSI]
  exact decodeSI_encodeSI_of_none (TimerMode.ofCode_eq_none h) ..

end IllegalImmediates

namespace Machine

/-! ### Reading and replacing a field of a word -/

/-- A field reads a value exactly when its slice is that value. -/
theorem getBits_eq_setWidth_iff {W hi lo : Nat} (w : BitVec W) (h : hi - lo + 1 ≤ W)
    (v : BitVec (hi - lo + 1)) :
    getBits w hi lo = v.setWidth W ↔ w.extractLsb' lo (hi - lo + 1) = v := by
  rw [getBits_eq_extractLsb', ← BitVec.toNat_inj, ← BitVec.toNat_inj,
    BitVec.toNat_setWidth_of_le h, BitVec.toNat_setWidth_of_le h]

/-- The word with its bits `hi:lo` replaced by a value as wide as the field, which cannot overflow. -/
def replaceField {n : Nat} (w : Word) (hi lo : Nat) (v : BitVec n) : Word :=
  (w &&& ~~~(fieldMask 32 hi lo <<< lo)) ||| (v.setWidth 32 <<< lo)

section ReplaceField

variable {n hi lo : Nat} (w : Word) (v : BitVec n)

/-- 40_bitfield_primitives R111, R115: `set_bits` with such a value. -/
theorem setBits_setWidth (width : n ≤ hi - lo + 1) :
    setBits w hi lo (v.setWidth 32) = .ok (replaceField w hi lo v) := by
  refine setBits_of_fits w hi lo _ ?_
  calc (v.setWidth 32).toNat
    _ = v.toNat % 2 ^ 32 := BitVec.toNat_setWidth ..
    _ ≤ v.toNat := Nat.mod_le ..
    _ < 2 ^ n := v.isLt
    _ ≤ 2 ^ (hi - lo + 1) := Nat.pow_le_pow_right (by decide) width

/-- Read-after-write (40_bitfield_primitives R114). -/
theorem getBits_replaceField (width : n ≤ hi - lo + 1) (ordered : lo ≤ hi) (inWord : hi < 32) :
    getBits (replaceField w hi lo v) hi lo = v.setWidth 32 :=
  getBits_of_setBits ordered inWord (setBits_setWidth w v width)

end ReplaceField

/-- A write leaves what is read from a field apart from the one written. -/
theorem getBits_of_setBits_apart {W hi lo hi2 lo2 : Nat} {w w' v : BitVec W} (h : lo ≤ hi)
    (h2 : lo2 ≤ hi2) (apart : hi2 < lo ∨ hi < lo2) (hw : setBits w hi lo v = .ok w') :
    getBits w' hi2 lo2 = getBits w hi2 lo2 := by
  refine BitVec.eq_of_getLsbD_eq fun i _ => ?_
  rw [getBits_getLsbD, getBits_getLsbD]
  by_cases inside : i < hi2 - lo2 + 1
  · rw [getLsbD_of_setBits_outside h hw (by omega)]
  · rw [decide_eq_false inside, Bool.false_and, Bool.false_and]

/-! ### The conclusion of a command whose checks are written out -/

section Conclusions

variable (s : State)

/-- A failed check is the fatal entry, a passed one leaves the rest of the command. -/
theorem conclude_raiseIf (p : Prop) [Decidable p] (c : FatalCode)
    (k : Unit → Except FatalCode State) :
    s.conclude (raiseIf p c >>= k) =
      if p then .next (fatalState s c.code) else s.conclude (k ()) := by
  rw [raiseIf_bind]
  split <;> rfl

/-- The end of a setter: the word with the field replaced is driven. -/
theorem conclude_setBits {n hi lo : Nat} (w : Word) (v : BitVec n) (width : n ≤ hi - lo + 1) :
    s.conclude (setBits w hi lo (v.setWidth 32) >>= fun x => pure (s.complete x 0)) =
      .next (okState s (replaceField w hi lo v) 0) := by
  rw [setBits_setWidth w v width]
  rfl

end Conclusions

/-! ### What each command drives -/

section Commands

variable (k : LvtKind) (s : State)

theorem exec_lvtGetvec :
    exec (.lvtGetvec k) s =
      if s.config.debugChecks = true ∧ vectorField s.opa ≤ 15#32 then .next (fatalState s 0x11)
      else .next (okState s (vectorField s.opa) 0) :=
  conclude_raiseIf ..

theorem exec_lvtSetvec (v : Byte) :
    exec (.lvtSetvec k v) s =
      if v ≤ 15#8 then .next (fatalState s 0x10)
      else .next (okState s (replaceField s.opa 7 0 v) 0) := by
  change execLvtSetvec k v s = _
  rw [execLvtSetvec, conclude_raiseIf, conclude_setBits _ _ _ (by decide)]
  rfl

theorem exec_lvtGetds : exec (.lvtGetds k) s = .next (okState s (getBit s.opa 12) 0) := rfl

theorem exec_lvtGetmask : exec (.lvtGetmask k) s = .next (okState s (getBit s.opa 16) 0) := rfl

theorem exec_lvtSetmask (m : Bool) :
    exec (.lvtSetmask k m) s =
      .next (okState s (replaceField s.opa 16 16 (BitVec.ofBool m)) 0) := rfl

theorem exec_lvtGetdm :
    exec (.lvtGetdm k) s =
      if deliverable k = false then .next (fatalState s 0x02)
      else if deliveryField s.opa = 0b011#32 then .next (fatalState s 0x03)
      else .next (okState s (deliveryField s.opa) 0) := by
  change execLvtGetdm k s = _
  rw [execLvtGetdm, conclude_raiseIf, conclude_raiseIf]
  rfl

theorem exec_lvtSetdm (d : DeliveryMode) :
    exec (.lvtSetdm k d) s =
      if deliverable k = false then .next (fatalState s 0x02)
      else .next (okState s (replaceField s.opa 10 8 d.code) 0) := by
  change execLvtSetdm k d s = _
  rw [execLvtSetdm, conclude_raiseIf, conclude_setBits _ _ _ (by decide)]
  rfl

theorem exec_lvtGettm :
    exec (.lvtGettm k) s =
      if hasTimerMode k = false then .next (fatalState s 0x02)
      else if timerField s.opa = 0b11#32 then .next (fatalState s 0x03)
      else .next (okState s (timerField s.opa) 0) := by
  change execLvtGettm k s = _
  rw [execLvtGettm, conclude_raiseIf, conclude_raiseIf]
  rfl

theorem exec_lvtSettm (t : TimerMode) :
    exec (.lvtSettm k t) s =
      if hasTimerMode k = false then .next (fatalState s 0x02)
      else if t = .tscDeadline ∧ s.config.capTscDeadline = false then .next (fatalState s 0x12)
      else .next (okState s (replaceField s.opa 18 17 t.code) 0) := by
  change execLvtSettm k t s = _
  rw [execLvtSettm, conclude_raiseIf, conclude_raiseIf, conclude_setBits _ _ _ (by decide)]
  rfl

end Commands

/-! ### The vector (R152, R153) -/

theorem vectorField_eq_slice (w : Word) : vectorField w = (w.extractLsb' 0 8).setWidth 32 :=
  getBits_eq_extractLsb' w 7 0

theorem vectorField_reserved_iff (w : Word) :
    vectorField w ≤ 15#32 ↔ (w.extractLsb' 0 8).toNat ≤ 15 := by
  rw [vectorField_eq_slice, BitVec.le_def, BitVec.toNat_setWidth_of_le (by decide)]
  rfl

/-- Settles O29: the check of a reserved vector is the one branch. -/
theorem lvtVectorRead : Obligations.LvtVectorRead := by
  intro k s
  rw [exec_lvtGetvec, ← vectorField_eq_slice, ← Nat.not_le, ← vectorField_reserved_iff]
  refine ⟨decodeOfEncodeIsIdentity (.lvtGetvec k) rfl, fun allowed => if_neg ?_, fun h => if_pos h⟩
  rintro ⟨checked, reserved⟩
  rcases allowed with unchecked | above
  · exact Bool.false_ne_true (unchecked.symm.trans checked)
  · exact above reserved

/-- Settles O30: the kind plays no part in the branch. -/
theorem lvtVectorReplaced : Obligations.LvtVectorReplaced := by
  intro k v s
  have replaced : replaceField s.opa 7 0 v = (s.opa &&& 0xFFFFFF00) ||| v.setWidth 32 := by
    rw [replaceField, BitVec.shiftLeft_zero, BitVec.shiftLeft_zero]
    rfl
  rw [exec_lvtSetvec, replaced]
  exact ⟨decodeOfEncodeIsIdentity (.lvtSetvec k v) rfl, fun h => if_neg (Nat.not_le.2 h),
    fun h => if_pos h⟩

/-! ### The delivery status and the mask (R154 to R156) -/

/-- Settles O31: each command drives one bit of `OPA`. -/
theorem lvtStatusAndMaskRead : Obligations.LvtStatusAndMaskRead := by
  intro k s
  rw [exec_lvtGetds, exec_lvtGetmask, getBit_eq_ite, getBit_eq_ite]
  exact ⟨decodeOfEncodeIsIdentity (.lvtGetds k) rfl, decodeOfEncodeIsIdentity (.lvtGetmask k) rfl,
    rfl, rfl⟩

/-- Setting the mask bit, bit by bit. -/
theorem replaceField_mask_true (w : Word) :
    replaceField w 16 16 (BitVec.ofBool true) = w ||| 0x00010000 := by
  have mask : ∀ i < 32, (0x00010000 : Word).getLsbD i = decide (i = 16) := by decide
  refine BitVec.eq_of_getLsbD_eq fun i inWord => ?_
  rw [BitVec.getLsbD_or, mask i inWord]
  refine (setBit_getLsbD w 16 true i inWord).trans ?_
  by_cases here : i = 16 <;> simp [here]

theorem replaceField_mask_false (w : Word) :
    replaceField w 16 16 (BitVec.ofBool false) = w &&& 0xFFFEFFFF :=
  BitVec.or_zero

/-- Settles O32: the two values of the bit, each a mask of `OPA`. -/
theorem lvtMaskReplaced : Obligations.LvtMaskReplaced := by
  intro k s
  rw [exec_lvtSetmask, exec_lvtSetmask, replaceField_mask_true, replaceField_mask_false]
  exact ⟨decodeOfEncodeIsIdentity (.lvtSetmask k false) rfl,
    decodeOfEncodeIsIdentity (.lvtSetmask k true) rfl,
    fun imm h => ⟨_, decode_lvtSetmask_illegal k h⟩, rfl, rfl⟩

/-! ### The delivery mode (R158, R159) -/

theorem deliverable_iff (k : LvtKind) :
    ¬ deliverable k = false ↔ k ∈ [LvtKind.cmci, .performanceMonitors, .thermalSensor] := by
  cases k <;> decide

theorem deliverable_eq_false_iff (k : LvtKind) :
    deliverable k = false ↔ k ∈ [LvtKind.timer, .lint0, .lint1, .error] := by
  cases k <;> decide

theorem deliveryField_eq_slice (w : Word) : deliveryField w = (w.extractLsb' 8 3).setWidth 32 :=
  getBits_eq_extractLsb' w 10 8

theorem deliveryField_reserved_iff (w : Word) :
    deliveryField w = 0b011#32 ↔ w.extractLsb' 8 3 = 0b011#3 :=
  getBits_eq_setWidth_iff (hi := 10) (lo := 8) w (by decide) 0b011#3

/-- Settles O33: the check of the kind, then the check of the code. -/
theorem lvtDeliveryModeRead : Obligations.LvtDeliveryModeRead := by
  intro k s
  rw [exec_lvtGetdm, ← deliveryField_eq_slice, ne_eq, ← deliveryField_reserved_iff,
    ← deliverable_iff, ← deliverable_eq_false_iff]
  exact ⟨decodeOfEncodeIsIdentity (.lvtGetdm k) rfl,
    fun kind code => (if_neg kind).trans (if_neg code),
    fun kind code => (if_neg kind).trans (if_pos code), fun kind => if_pos kind⟩

/-- Settles O34: the check of the kind is the one branch. -/
theorem lvtDeliveryModeReplaced : Obligations.LvtDeliveryModeReplaced := by
  intro k d s
  rw [exec_lvtSetdm, ← deliverable_iff, ← deliverable_eq_false_iff]
  exact ⟨decodeOfEncodeIsIdentity (.lvtSetdm k d) rfl,
    fun imm h => ⟨_, decode_lvtSetdm_illegal k h⟩, fun kind => if_neg kind,
    fun kind => if_pos kind⟩

/-! ### The timer mode (R160, R161) -/

theorem hasTimerMode_iff (k : LvtKind) : ¬ hasTimerMode k = false ↔ k = .timer := by
  rw [hasTimerMode_eq_false_iff, not_not]

theorem timerField_eq_slice (w : Word) : timerField w = (w.extractLsb' 17 2).setWidth 32 :=
  getBits_eq_extractLsb' w 18 17

theorem timerField_reserved_iff (w : Word) :
    timerField w = 0b11#32 ↔ w.extractLsb' 17 2 = 0b11#2 :=
  getBits_eq_setWidth_iff (hi := 18) (lo := 17) w (by decide) 0b11#2

/-- Settles O35: the check of the kind, then the check of the code; the pin is not looked at. -/
theorem lvtTimerModeRead : Obligations.LvtTimerModeRead := by
  intro k s
  rw [exec_lvtGettm, ← timerField_eq_slice, ne_eq, ← timerField_reserved_iff,
    ← hasTimerMode_iff, ← hasTimerMode_eq_false_iff]
  exact ⟨decodeOfEncodeIsIdentity (.lvtGettm k) rfl,
    fun kind code => (if_neg kind).trans (if_neg code),
    fun kind code => (if_neg kind).trans (if_pos code), fun kind => if_pos kind⟩

/-- Settles O36: the check of the kind, then the check of the pin for TSC-Deadline. -/
theorem lvtTimerModeReplaced : Obligations.LvtTimerModeReplaced := by
  intro k t s
  rw [exec_lvtSettm, ← hasTimerMode_iff, ← hasTimerMode_eq_false_iff]
  refine ⟨decodeOfEncodeIsIdentity (.lvtSettm k t) rfl,
    fun imm h => ⟨_, decode_lvtSettm_illegal k h⟩,
    fun kind capable => (if_neg kind).trans (if_neg ?_),
    fun kind deadline incapable => (if_neg kind).trans (if_pos ⟨deadline, incapable⟩),
    fun kind => if_pos kind⟩
  rintro ⟨deadline, incapable⟩
  exact Bool.false_ne_true (incapable.symm.trans (capable deadline))

/-! ### The result of each command on a given word -/

section Results

variable (s : State) (k : LvtKind) (w : Word)

theorem resultOn_lvtGetvec :
    resultOn s (.lvtGetvec k) w =
      if s.config.debugChecks = true ∧ vectorField w ≤ 15#32 then none
      else some (vectorField w) := by
  rw [resultOn, exec_lvtGetvec]
  split_ifs <;> rfl

theorem resultOn_lvtSetvec (v : Byte) :
    resultOn s (.lvtSetvec k v) w = if v ≤ 15#8 then none else some (replaceField w 7 0 v) := by
  rw [resultOn, exec_lvtSetvec]
  split_ifs <;> rfl

theorem resultOn_lvtGetds : resultOn s (.lvtGetds k) w = some (getBit w 12) :=
  resultOn_of_exec (exec_lvtGetds k _)

theorem resultOn_lvtGetmask : resultOn s (.lvtGetmask k) w = some (getBit w 16) :=
  resultOn_of_exec (exec_lvtGetmask k _)

theorem resultOn_lvtSetmask (m : Bool) :
    resultOn s (.lvtSetmask k m) w = some (replaceField w 16 16 (BitVec.ofBool m)) :=
  resultOn_of_exec (exec_lvtSetmask k _ m)

theorem resultOn_lvtGetdm :
    resultOn s (.lvtGetdm k) w =
      if deliverable k = false ∨ deliveryField w = 0b011#32 then none
      else some (deliveryField w) := by
  rw [resultOn, exec_lvtGetdm, ite_or]
  split_ifs <;> rfl

theorem resultOn_lvtSetdm (d : DeliveryMode) :
    resultOn s (.lvtSetdm k d) w =
      if deliverable k = false then none else some (replaceField w 10 8 d.code) := by
  rw [resultOn, exec_lvtSetdm]
  split_ifs <;> rfl

theorem resultOn_lvtGettm :
    resultOn s (.lvtGettm k) w =
      if hasTimerMode k = false ∨ timerField w = 0b11#32 then none else some (timerField w) := by
  rw [resultOn, exec_lvtGettm, ite_or]
  split_ifs <;> rfl

theorem resultOn_lvtSettm (t : TimerMode) :
    resultOn s (.lvtSettm k t) w =
      if hasTimerMode k = false ∨ t = .tscDeadline ∧ s.config.capTscDeadline = false then none
      else some (replaceField w 18 17 t.code) := by
  rw [resultOn, exec_lvtSettm, ite_or]
  split_ifs <;> rfl

end Results

/-! ### Read-after-write (R162) -/

/-- The vectors a setter accepts are not reserved for the getter. -/
theorem vector_not_reserved {v : Byte} (h : 15 < v.toNat) : ¬ v.setWidth 32 ≤ 15#32 := by
  rw [BitVec.le_def, BitVec.toNat_setWidth_of_le (by decide)]
  exact Nat.not_le.2 h

/-- Settles O37: each getter reads the replaced field back, and the value set passes its checks. -/
theorem lvtReadAfterWrite : Obligations.LvtReadAfterWrite := by
  intro s k w
  refine ⟨fun v above => ?vector, fun m => ?mask, fun d kind => ?delivery,
    fun t kind capable => ?timer⟩
  case vector =>
    have read : vectorField (replaceField w 7 0 v) = v.setWidth 32 :=
      getBits_replaceField w v (by decide) (by decide) (by decide)
    refine ⟨_, (resultOn_lvtSetvec ..).trans (if_neg (Nat.not_le.2 above)), ?_⟩
    rw [resultOn_lvtGetvec, read, if_neg fun h => vector_not_reserved above h.2]
  case mask =>
    have read :
        getBit (replaceField w 16 16 (BitVec.ofBool m)) 16 = (BitVec.ofBool m).setWidth 32 :=
      getBits_replaceField w _ (by decide) (by decide) (by decide)
    refine ⟨_, resultOn_lvtSetmask .., ?_⟩
    rw [resultOn_lvtGetmask, read]
    cases m <;> rfl
  case delivery =>
    have read : deliveryField (replaceField w 10 8 d.code) = d.code.setWidth 32 :=
      getBits_replaceField w _ (by decide) (by decide) (by decide)
    have capable := (deliverable_iff k).2 kind
    refine ⟨_, (resultOn_lvtSetdm ..).trans (if_neg capable), ?_⟩
    rw [resultOn_lvtGetdm, read, if_neg (not_or.2 ⟨capable, d.code_ne_reserved⟩)]
  case timer =>
    have read : timerField (replaceField w 18 17 t.code) = t.code.setWidth 32 :=
      getBits_replaceField w _ (by decide) (by decide) (by decide)
    have hasMode := (hasTimerMode_iff k).2 kind
    have supported : ¬ (t = .tscDeadline ∧ s.config.capTscDeadline = false) :=
      fun ⟨deadline, incapable⟩ => Bool.false_ne_true (incapable.symm.trans (capable deadline))
    refine ⟨_, (resultOn_lvtSettm ..).trans (if_neg (not_or.2 ⟨hasMode, supported⟩)), ?_⟩
    rw [resultOn_lvtGettm, read, if_neg (not_or.2 ⟨hasMode, t.code_ne_reserved⟩)]

/-! ### Setters and getters of different fields (R162) -/

/-- The place of a field in a word. -/
structure FieldRange where
  hi : Nat
  lo : Nat
  ordered : lo ≤ hi

/-- Two commands name fields, and these have no bit in common. -/
def fieldsApart : Option FieldRange → Option FieldRange → Bool
  | some f, some g => decide (g.hi < f.lo ∨ f.hi < g.lo)
  | _, _ => false

/-- The fields of a pair of commands, from a list in which the fields of every pair are apart. -/
theorem exists_fields_of_mem (F G : Instr → Option FieldRange) {l : List (Instr × Instr)}
    {i j : Instr} (h : (i, j) ∈ l) (apart : l.all (fun q => fieldsApart (F q.1) (G q.2)) = true) :
    ∃ f g, F i = some f ∧ G j = some g ∧ (g.hi < f.lo ∨ f.hi < g.lo) := by
  have here : fieldsApart (F i) (G j) = true := List.all_eq_true.1 apart _ h
  generalize F i = a, G j = b at here
  match a, b with
  | some f, some g => exact ⟨f, g, rfl, rfl, of_decide_eq_true here⟩
  | some _, none => cases here
  | none, _ => cases here

/-- The field a setter of the table replaces (10_state R34). -/
def writtenField : Instr → Option FieldRange
  | .lvtSetvec _ _ => some ⟨7, 0, by decide⟩
  | .lvtSetmask _ _ => some ⟨16, 16, by decide⟩
  | .lvtSetdm _ _ => some ⟨10, 8, by decide⟩
  | .lvtSettm _ _ => some ⟨18, 17, by decide⟩
  | _ => none

/-- The field a getter of the table returns (10_state R34). -/
def readField : Instr → Option FieldRange
  | .lvtGetvec _ => some ⟨7, 0, by decide⟩
  | .lvtGetdm _ => some ⟨10, 8, by decide⟩
  | .lvtGetds _ => some ⟨12, 12, by decide⟩
  | .lvtGetmask _ => some ⟨16, 16, by decide⟩
  | .lvtGettm _ => some ⟨18, 17, by decide⟩
  | _ => none

/-- What a setter of a field can do: it is fatal on every word, or writes one value into the field of
every word. -/
inductive Writes (s : State) (i : Instr) (f : FieldRange) : Prop
  | refused (none_of : ∀ w, resultOn s i w = none)
  | stores (v : Word) (some_of : ∀ w, ∃ x, resultOn s i w = some x ∧ setBits w f.hi f.lo v = .ok x)

/-- The answer of the command depends on this field of its word only. -/
def Reads (s : State) (j : Instr) (f : FieldRange) : Prop :=
  ∀ w x, getBits w f.hi f.lo = getBits x f.hi f.lo → resultOn s j w = resultOn s j x

section Fields

variable {s : State} {i j : Instr} {f g : FieldRange}

/-- A check that looks at no word, then the replacement of a field. -/
theorem writes_of_check {p : Prop} [Decidable p] {n : Nat} (v : BitVec n)
    (width : n ≤ f.hi - f.lo + 1)
    (result : ∀ w, resultOn s i w = if p then none else some (replaceField w f.hi f.lo v)) :
    Writes s i f := by
  by_cases h : p
  · exact .refused fun w => (result w).trans (if_pos h)
  · exact .stores (v.setWidth 32) fun w =>
      ⟨_, (result w).trans (if_neg h), setBits_setWidth w v width⟩

theorem writes_writtenField (h : writtenField i = some f) : Writes s i f := by
  cases i with
  | lvtSetvec k v =>
    cases h
    exact writes_of_check v (by decide) fun w => resultOn_lvtSetvec s k w v
  | lvtSetmask k m =>
    cases h
    exact .stores _ fun w => ⟨_, resultOn_lvtSetmask s k w m, setBits_setWidth w _ (by decide)⟩
  | lvtSetdm k d =>
    cases h
    exact writes_of_check d.code (by decide) fun w => resultOn_lvtSetdm s k w d
  | lvtSettm k t =>
    cases h
    exact writes_of_check t.code (by decide) fun w => resultOn_lvtSettm s k w t
  | _ => cases h

theorem reads_readField (h : readField j = some f) : Reads s j f := by
  cases j with
  | lvtGetvec k =>
    cases h
    intro w x (same : vectorField w = vectorField x)
    rw [resultOn_lvtGetvec, resultOn_lvtGetvec, same]
  | lvtGetdm k =>
    cases h
    intro w x (same : deliveryField w = deliveryField x)
    rw [resultOn_lvtGetdm, resultOn_lvtGetdm, same]
  | lvtGetds k =>
    cases h
    intro w x (same : getBit w 12 = getBit x 12)
    rw [resultOn_lvtGetds, resultOn_lvtGetds, same]
  | lvtGetmask k =>
    cases h
    intro w x (same : getBit w 16 = getBit x 16)
    rw [resultOn_lvtGetmask, resultOn_lvtGetmask, same]
  | lvtGettm k =>
    cases h
    intro w x (same : timerField w = timerField x)
    rw [resultOn_lvtGettm, resultOn_lvtGettm, same]
  | _ => cases h

/-- Two setters of fields apart commute: a setter fatal on every word makes both orders fatal, and two
that store are writes of disjoint fields. -/
theorem Writes.comm (first : Writes s i f) (second : Writes s j g)
    (apart : g.hi < f.lo ∨ f.hi < g.lo) (w : Word) :
    (resultOn s i w).bind (resultOn s j) = (resultOn s j w).bind (resultOn s i) := by
  cases first with
  | refused noneI => rw [funext noneI, Option.bind_fun_none, Option.bind_none]
  | stores v someI =>
    cases second with
    | refused noneJ => rw [funext noneJ, Option.bind_fun_none, Option.bind_none]
    | stores u someJ =>
      obtain ⟨x, hx, writeX⟩ := someI w
      obtain ⟨y, hy, writeY⟩ := someJ w
      obtain ⟨xy, hxy, writeXY⟩ := someJ x
      obtain ⟨yx, hyx, writeYX⟩ := someI y
      obtain ⟨z, writeI, writeJ⟩ :=
        setBits_comm_of_disjoint f.ordered g.ordered apart writeX writeY
      cases writeXY.symm.trans writeJ
      cases writeYX.symm.trans writeI
      rw [hx, hy]
      exact hxy.trans hyx.symm

/-- A setter keeps the answer of a getter of a field apart from its own. -/
theorem Writes.keeps_answer (setter : Writes s i f) (getter : Reads s j g)
    (apart : g.hi < f.lo ∨ f.hi < g.lo) {w x : Word} (h : resultOn s i w = some x) :
    resultOn s j x = resultOn s j w := by
  cases setter with
  | refused noneI => rw [noneI] at h; cases h
  | stores v someI =>
    obtain ⟨x', hx, write⟩ := someI w
    cases hx.symm.trans h
    exact getter _ _ (getBits_of_setBits_apart f.ordered g.ordered apart write)

end Fields

/-- Settles O38: in every pair of the list the two setters write fields apart. -/
theorem lvtSettersCommute : Obligations.LvtSettersCommute := by
  intro s k v m d t w i j pair
  obtain ⟨f, g, hi, hj, apart⟩ := exists_fields_of_mem writtenField writtenField pair rfl
  exact (writes_writtenField hi).comm (writes_writtenField hj) apart w

/-- Settles O39: in every pair of the list the getter reads a field apart from the one written. -/
theorem lvtSettersKeepOtherFields : Obligations.LvtSettersKeepOtherFields := by
  intro s k v m d t w x i j pair
  obtain ⟨f, g, hi, hj, apart⟩ := exists_fields_of_mem writtenField readField pair rfl
  exact (writes_writtenField hi).keeps_answer (reads_readField hj) apart

end Machine
end Sys2Proof
end

section
/-! 43_interrupt_command. The construction of an interrupt command from its description (R181 to R184),
the two named constructors (R186 to R188), the six decoders (R189 to R194) and the round trip (R195). -/

namespace Sys2Proof

/-! ### Names read off their codes (10_state R37, R38) -/

theorem DestinationMode.bit_iff (m : DestinationMode) : m.bit = true ↔ m = .logical := by
  cases m <;> decide

theorem TriggerMode.bit_iff (m : TriggerMode) : m.bit = true ↔ m = .level := by
  cases m <;> decide

theorem AssertMode.bit_iff (m : AssertMode) : m.bit = true ↔ m = .assert := by
  cases m <;> decide

theorem DestinationKind.code_eq_zero_iff (k : DestinationKind) : k.code = 0#2 ↔ k = .explicitId := by
  cases k <;> decide

/-- A description without a vector has a zero vector field (30_encoding R84). -/
theorem IcrDescription.vec_eq_zero_of_wellFormed {d : IcrDescription} (h : d.wellFormed = true)
    (absent : d.vp = false) : d.vec = 0 := by
  simpa [IcrDescription.wellFormed, absent] using h

namespace Machine

theorem novec_iff (d : DeliveryMode) : novec d = true ↔ d = .systemManagement ∨ d = .init := by
  cases d <;> decide

theorem novec_eq_false_iff (d : DeliveryMode) :
    novec d = false ↔ d ≠ .systemManagement ∧ d ≠ .init := by
  cases d <;> decide

/-- The codes that `ICR.GETVEC` tells apart (R189) are those of the modes without a vector (R181). -/
theorem code_vectorless_iff (d : DeliveryMode) :
    d.code = 0b010#3 ∨ d.code = 0b101#3 ↔ novec d = true := by
  cases d <;> decide

/-! ### The low half of a description (10_state R38) -/

/-- The low half, field after field from bit 31 down; `buildLow_eq` ties it to the builder. -/
def icrLow (d : IcrDescription) : Word :=
  0#12 ++ d.dkind.code ++ 0#2 ++ BitVec.ofBool d.trig.bit ++ BitVec.ofBool d.asrt.bit ++ 0#2
    ++ BitVec.ofBool d.dstm.bit ++ d.dm.code ++ d.vec

theorem replaceField_getLsbD {n hi lo : Nat} (w : Word) (v : BitVec n) (width : n ≤ hi - lo + 1)
    (ordered : lo ≤ hi) {i : Nat} (inWord : i < 32) :
    (replaceField w hi lo v).getLsbD i =
      if lo ≤ i ∧ i ≤ hi then v.getLsbD (i - lo) else w.getLsbD i := by
  obtain ⟨-, bits⟩ := (setBits_eq_ok_iff ordered).1 (setBits_setWidth w v width)
  rw [bits i inWord, BitVec.getLsbD_setWidth, decide_eq_true (show i - lo < 32 by omega),
    Bool.true_and]

/-- The table of the low half in 10_state R38, from the highest field down. -/
theorem icrLow_getLsbD (d : IcrDescription) {i : Nat} (inWord : i < 32) :
    (icrLow d).getLsbD i =
      if 18 ≤ i ∧ i ≤ 19 then d.dkind.code.getLsbD (i - 18)
      else if i = 15 then d.trig.bit
      else if i = 14 then d.asrt.bit
      else if i = 11 then d.dstm.bit
      else if 8 ≤ i ∧ i ≤ 10 then d.dm.code.getLsbD (i - 8)
      else if 0 ≤ i ∧ i ≤ 7 then d.vec.getLsbD i
      else false := by
  simp only [icrLow, BitVec.getLsbD_append, -Nat.reduceAdd]
  interval_cases i <;> simp

/-- The six writes of R181 put the fields at their places, and no write overflows (R184). -/
theorem buildLow_eq (d : IcrDescription) : buildLow d = .ok (icrLow d) := by
  have written : buildLow d = .ok (replaceField (setBit (setBit (setBit
      (replaceField (replaceField 0 7 0 d.vec) 10 8 d.dm.code)
      11 d.dstm.bit) 14 d.asrt.bit) 15 d.trig.bit) 19 18 d.dkind.code) := by
    simp only [buildLow, setBits_setWidth (n := 8) _ _ (hi := 7) (lo := 0) (by decide),
      setBits_setWidth (n := 3) _ _ (hi := 10) (lo := 8) (by decide),
      setBits_setWidth (n := 2) _ _ (hi := 19) (lo := 18) (by decide)]
    rfl
  rw [written]
  refine congrArg _ (BitVec.eq_of_getLsbD_eq fun i inWord => ?_)
  rw [replaceField_getLsbD _ d.dkind.code (by decide) (by decide) inWord,
    setBit_getLsbD _ _ _ _ inWord, setBit_getLsbD _ _ _ _ inWord, setBit_getLsbD _ _ _ _ inWord,
    replaceField_getLsbD _ d.dm.code (by decide) (by decide) inWord,
    replaceField_getLsbD _ d.vec (by decide) (by decide) inWord, BitVec.ofNat_eq_ofNat,
    BitVec.getLsbD_zero]
  exact (icrLow_getLsbD d inWord).symm

section Fields

variable (d : IcrDescription)

theorem icrLow_vector : (icrLow d).extractLsb' 0 8 = d.vec :=
  (BitVec.extractLsb'_append_eq_of_add_le (by decide)).trans BitVec.extractLsb'_eq_self

theorem icrLow_deliveryMode : (icrLow d).extractLsb' 8 3 = d.dm.code :=
  (BitVec.extractLsb'_append_eq_of_le (by decide)).trans <|
    (BitVec.extractLsb'_append_eq_of_add_le (by decide)).trans BitVec.extractLsb'_eq_self

theorem icrLow_destinationKind : (icrLow d).extractLsb' 18 2 = d.dkind.code := by
  unfold icrLow
  iterate 7 rw [BitVec.extractLsb'_append_eq_of_le (by decide)]
  rw [BitVec.extractLsb'_append_eq_of_add_le (by decide), BitVec.extractLsb'_eq_self]

theorem icrLow_destinationMode : (icrLow d).getLsbD 11 = d.dstm.bit :=
  icrLow_getLsbD d (by decide)

theorem icrLow_triggerMode : (icrLow d).getLsbD 15 = d.trig.bit :=
  icrLow_getLsbD d (by decide)

theorem icrLow_assertMode : (icrLow d).getLsbD 14 = d.asrt.bit :=
  icrLow_getLsbD d (by decide)

end Fields

/-! ### What each command drives -/

section Commands

variable (s : State)

/-- The five checks in the order of R183, then the two halves. -/
theorem exec_icrBuild (d : IcrDescription) :
    exec (.icrBuild d) s =
      if d.asrt = .deassert ∧ d.dm ≠ .init then .next (fatalState s 0x20)
      else if d.asrt = .deassert ∧ d.trig = .edge then .next (fatalState s 0x21)
      else if d.vp = true ∧ novec d.dm = true then .next (fatalState s 0x22)
      else if d.vp = false ∧ novec d.dm = false then .next (fatalState s 0x23)
      else if d.asrt = .deassert ∧ d.dkind ≠ .allIncludingSelf then .next (fatalState s 0x24)
      else .next (okState s (icrLow d) (buildHigh d s.opa)) := by
  change execIcrBuild d s = _
  simp only [execIcrBuild, checkDescription, bind_assoc, conclude_raiseIf, buildLow_eq]
  rfl

theorem exec_icrInit : exec .icrInit s = .next (okState s 0x0000C500 s.opa) := rfl

theorem exec_icrSipi (v : Byte) :
    exec (.icrSipi v) s = .next (okState s (0x00004600 ||| v.setWidth 32) s.opa) := rfl

theorem deliveryField_eq_iff (w : Word) (c : BitVec 3) :
    deliveryField w = c.setWidth 32 ↔ w.extractLsb' 8 3 = c :=
  getBits_eq_setWidth_iff (hi := 10) (lo := 8) w (by decide) c

theorem exec_icrGetvec :
    exec .icrGetvec s =
      if s.opa.extractLsb' 8 3 = 0b011#3 then .next (fatalState s 0x03)
      else if s.opa.extractLsb' 8 3 = 0b010#3 ∨ s.opa.extractLsb' 8 3 = 0b101#3 then
        .next (okState s 0 0)
      else .next (okState s ((s.opa.extractLsb' 0 8).setWidth 32) 1) := by
  change execIcrGetvec s = _
  simp only [← deliveryField_eq_iff, ← vectorField_eq_slice]
  rw [execIcrGetvec, conclude_raiseIf, apply_ite s.conclude]
  rfl

theorem exec_icrGetdm :
    exec .icrGetdm s =
      if s.opa.extractLsb' 8 3 = 0b011#3 then .next (fatalState s 0x03)
      else .next (okState s ((s.opa.extractLsb' 8 3).setWidth 32) 0) := by
  change execIcrGetdm s = _
  rw [execIcrGetdm, conclude_raiseIf, ← deliveryField_eq_slice]
  simp only [deliveryField_reserved_iff]
  rfl

theorem exec_icrGetdstm :
    exec .icrGetdstm s = .next (okState s (if s.opa.getLsbD 11 then 1 else 0) 0) :=
  congrArg (fun r => Host.Outcome.next (okState s r 0)) (getBit_eq_ite s.opa 11)

theorem exec_icrGettrig :
    exec .icrGettrig s = .next (okState s (if s.opa.getLsbD 15 then 1 else 0) 0) :=
  congrArg (fun r => Host.Outcome.next (okState s r 0)) (getBit_eq_ite s.opa 15)

theorem exec_icrGetasrt :
    exec .icrGetasrt s = .next (okState s (if s.opa.getLsbD 14 then 1 else 0) 0) :=
  congrArg (fun r => Host.Outcome.next (okState s r 0)) (getBit_eq_ite s.opa 14)

theorem shorthandField_eq_slice (w : Word) : shorthandField w = (w.extractLsb' 18 2).setWidth 32 :=
  getBits_eq_extractLsb' w 19 18

theorem shorthandField_eq_zero_iff (w : Word) : shorthandField w = 0 ↔ w.extractLsb' 18 2 = 0#2 :=
  getBits_eq_zero_iff (hi := 19) w 18 (by decide)

theorem exec_icrGetdest :
    exec .icrGetdest s = .next (okState s ((s.opa.extractLsb' 18 2).setWidth 32)
      (if s.opa.extractLsb' 18 2 = 0#2 then s.opb else 0)) := by
  rw [← shorthandField_eq_slice]
  simp only [← shorthandField_eq_zero_iff]
  rfl

end Commands

/-! ### Construction (R181 to R184) -/

/-- A description that asserts, or deasserts the level of an `Init`, passes the first two checks. -/
theorem exec_icrBuild_of_deassert {d : IcrDescription}
    (deassert : d.asrt = .deassert → d.dm = .init ∧ d.trig = .level) (s : State) :
    exec (.icrBuild d) s =
      if d.vp = true ∧ novec d.dm = true then .next (fatalState s 0x22)
      else if d.vp = false ∧ novec d.dm = false then .next (fatalState s 0x23)
      else if d.asrt = .deassert ∧ d.dkind ≠ .allIncludingSelf then .next (fatalState s 0x24)
      else .next (okState s (icrLow d) (buildHigh d s.opa)) := by
  have notLevel : ¬ (d.asrt = .deassert ∧ d.trig = .edge) := fun ⟨hd, edge⟩ =>
    TriggerMode.noConfusion (edge.symm.trans (deassert hd).2)
  rw [exec_icrBuild, if_neg fun ⟨hd, notInit⟩ => notInit (deassert hd).1, if_neg notLevel]

/-- Settles O40: a clause says which of the five checks is the first to fail, or that none does. -/
theorem icrBuildValidatesAndEncodes : Obligations.IcrBuildValidatesAndEncodes := by
  intro d s _
  refine ⟨fun vector deassert => ?accepted,
    fun hd notInit => (exec_icrBuild s d).trans (if_pos ⟨hd, notInit⟩),
    fun hd init edge => ?notLevel, fun deassert present vectorless => ?forbidden,
    fun deassert absent notSm notInit => ?required, fun hd init level absent dest => ?destination⟩
  case accepted =>
    have notForbidden : ¬ (d.vp = true ∧ novec d.dm = true) := fun ⟨present, vectorless⟩ =>
      (not_or.2 (vector.1 present)) ((novec_iff d.dm).1 vectorless)
    have notRequired : ¬ (d.vp = false ∧ novec d.dm = false) := fun ⟨absent, needed⟩ =>
      Bool.false_ne_true (absent.symm.trans (vector.2 ((novec_eq_false_iff d.dm).1 needed)))
    rw [exec_icrBuild_of_deassert fun hd => ⟨(deassert hd).1, (deassert hd).2.1⟩,
      if_neg notForbidden, if_neg notRequired, if_neg fun ⟨hd, dest⟩ => dest (deassert hd).2.2]
    rfl
  case notLevel =>
    rw [exec_icrBuild, if_neg fun ⟨_, notInit⟩ => notInit init, if_pos ⟨hd, edge⟩]
  case forbidden =>
    rw [exec_icrBuild_of_deassert deassert, if_pos ⟨present, (novec_iff d.dm).2 vectorless⟩]
  case required =>
    have needed := (novec_eq_false_iff d.dm).2 ⟨notSm, notInit⟩
    rw [exec_icrBuild_of_deassert deassert, if_neg (by simp [absent]), if_pos ⟨absent, needed⟩]
  case destination =>
    rw [exec_icrBuild_of_deassert fun _ => ⟨init, level⟩, if_neg (by simp [absent]),
      if_neg (by simp [init, novec]), if_pos ⟨hd, dest⟩]

/-! ### The named constructors (R186 to R188) -/

/-- The description of `ICR.INIT` (R186). -/
def initDescription : IcrDescription :=
  { vp := false, dm := .init, dstm := .physical, trig := .level, asrt := .assert, vec := 0,
    dkind := .explicitId }

/-- The description of `ICR.SIPI` (R187). -/
def sipiDescription (v : Byte) : IcrDescription :=
  { vp := true, dm := .startUp, dstm := .physical, trig := .edge, asrt := .assert, vec := v,
    dkind := .explicitId }

theorem icrLow_sipiDescription (v : Byte) :
    icrLow (sipiDescription v) = 0x00004600 ||| v.setWidth 32 := by
  have upper : 0#12 ++ DestinationKind.explicitId.code ++ 0#2 ++ BitVec.ofBool false
      ++ BitVec.ofBool true ++ 0#2 ++ BitVec.ofBool false ++ DeliveryMode.startUp.code =
        0x000046#24 := by decide
  exact (congrArg (· ++ v) upper).trans (BitVec.append_def ..)

theorem encode_sipiDescription (v : Byte) :
    encode (.icrBuild (sipiDescription v)) = 0x00004D30#32 ||| (v.setWidth 32 <<< 16) := by
  have destination : field DestinationKind.explicitId.code 24 = 0#32 := by decide
  have fixed : field (0x30 : Byte) 0 ||| field (BitVec.ofBool true) 8
      ||| field DeliveryMode.startUp.code 9 ||| field (BitVec.ofBool false) 12
      ||| field (BitVec.ofBool false) 13 ||| field (BitVec.ofBool true) 14 = 0x00004D30#32 := by
    decide
  rw [encode, encodeC, sipiDescription, destination, BitVec.or_zero]
  exact congrArg (· ||| field v 16) fixed

theorem exec_icrBuild_initDescription (s : State) :
    exec (.icrBuild initDescription) s = exec .icrInit s := by
  rw [exec_icrBuild]
  rfl

theorem exec_icrBuild_sipiDescription (v : Byte) (s : State) :
    exec (.icrBuild (sipiDescription v)) s = exec (.icrSipi v) s := by
  rw [exec_icrBuild, icrLow_sipiDescription]
  rfl

/-- Settles O41: the builder words are the encodings of the two descriptions. -/
theorem icrNamedConstructors : Obligations.IcrNamedConstructors :=
  ⟨decode_of_encode_eq rfl rfl, fun v => decodeOfEncodeIsIdentity (.icrSipi v) rfl, exec_icrInit,
    fun v s => exec_icrSipi s v,
    ⟨_, decode_of_encode_eq (i := .icrBuild initDescription) rfl rfl, exec_icrBuild_initDescription⟩,
    fun v => ⟨_, decode_of_encode_eq (encode_sipiDescription v) rfl, exec_icrBuild_sipiDescription v⟩⟩

/-! ### The decoders (R189 to R194) -/

/-- Settles O42: the reserved code is checked first, then the codes without a vector. -/
theorem icrVectorAndDeliveryModeRead : Obligations.IcrVectorAndDeliveryModeRead := by
  refine ⟨decode_of_encode_eq rfl rfl, decode_of_encode_eq rfl rfl, fun s => ?_⟩
  rw [exec_icrGetvec, exec_icrGetdm]
  refine ⟨fun reserved => ⟨if_pos reserved, if_pos reserved⟩, fun named => if_neg named,
    fun vectorless => ?absent,
    fun named h2 h5 => (if_neg named).trans (if_neg (not_or.2 ⟨h2, h5⟩))⟩
  case absent =>
    have named : s.opa.extractLsb' 8 3 ≠ 0b011#3 := by
      rcases vectorless with h | h <;> rw [h] <;> decide
    exact (if_neg named).trans (if_pos vectorless)

/-- Settles O43: three bits of the low half, and its destination with the id. -/
theorem icrModesAndDestinationRead : Obligations.IcrModesAndDestinationRead :=
  ⟨decode_of_encode_eq rfl rfl, decode_of_encode_eq rfl rfl, decode_of_encode_eq rfl rfl,
    decode_of_encode_eq rfl rfl,
    fun s => ⟨exec_icrGetdstm s, exec_icrGettrig s, exec_icrGetasrt s, exec_icrGetdest s⟩⟩

/-! ### The round trip (R195) -/

/-- What is known of a description the builder accepts, and of its two halves. -/
theorem icrBuild_accepted {d : IcrDescription} {s t : State} {low high : Word}
    (h : exec (.icrBuild d) s = .next t) (hlow : t.res0 = some low) (hhigh : t.res1 = some high) :
    d.vp = !novec d.dm ∧ low = icrLow d ∧ high = buildHigh d s.opa := by
  rw [exec_icrBuild] at h
  split_ifs at h with notInit notLevel forbidden required destination <;> cases h
  case neg =>
    cases hlow
    cases hhigh
    refine ⟨?_, rfl, rfl⟩
    cases vectorless : novec d.dm with
    | true => exact Bool.eq_false_iff.2 fun present => forbidden ⟨present, vectorless⟩
    | false =>
      exact (Bool.eq_false_or_eq_true d.vp).resolve_right fun absent => required ⟨absent, vectorless⟩
  all_goals exact nomatch hlow

/-- Settles O44: the decoders read the fields of `icrLow` back; the checks on the vector make its
presence a matter of the delivery mode. -/
theorem icrRoundTrips : Obligations.IcrRoundTrips := by
  intro d s t low high wf h hlow hhigh u
  obtain ⟨presence, rfl, rfl⟩ := icrBuild_accepted h hlow hhigh
  have mode : u.opa.extractLsb' 8 3 = d.dm.code := icrLow_deliveryMode d
  have named : d.dm.code ≠ 0b011#3 := fun h => d.dm.code_ne_reserved (congrArg _ h)
  refine ⟨?vector, ?deliveryMode, ?destinationMode, ?triggerMode, ?assertMode, ?destination⟩
  case vector =>
    have vector : u.opa.extractLsb' 0 8 = d.vec := icrLow_vector d
    rw [exec_icrGetvec, mode, vector, if_neg named, presence]
    cases vectorless : novec d.dm with
    | true =>
      rw [if_pos ((code_vectorless_iff d.dm).2 vectorless),
        IcrDescription.vec_eq_zero_of_wellFormed wf (by rw [presence, vectorless]; rfl)]
      rfl
    | false =>
      rw [if_neg fun h => Bool.false_ne_true (vectorless.symm.trans ((code_vectorless_iff _).1 h))]
      rfl
  case deliveryMode => rw [exec_icrGetdm, mode, if_neg named]
  case destinationMode =>
    simp only [exec_icrGetdstm, u, icrLow_destinationMode, DestinationMode.bit_iff]
  case triggerMode => simp only [exec_icrGettrig, u, icrLow_triggerMode, TriggerMode.bit_iff]
  case assertMode => simp only [exec_icrGetasrt, u, icrLow_assertMode, AssertMode.bit_iff]
  case destination =>
    have kind : u.opa.extractLsb' 18 2 = d.dkind.code := icrLow_destinationKind d
    simp only [exec_icrGetdest, kind, DestinationKind.code_eq_zero_iff, u, buildHigh]
    split_ifs <;> rfl

end Machine
end Sys2Proof
end

section
/-! 44_mode_dispatch. The selection of the mode (R210), the checks of the register commands (R211, R216,
R217), the one access each register command makes (R212 to R214, R218 to R220, R224), the send of an
interrupt command (R221, R222) and what the two modes have in common (R226). -/

namespace Sys2Proof

/-! ### An immediate outside its set (30_encoding R83, R96) -/

theorem Backend.ofCode_eq_none {imm : Byte} (h : 1 < imm.toNat) : Backend.ofCode imm = none := by
  refine Option.eq_none_iff_forall_ne_some.2 fun m hm => absurd h ?_
  rw [← Backend.code_of_ofCode hm]
  cases m <;> decide

namespace Machine

theorem decode_modeSelect_illegal {imm : Byte} (h : 1 < imm.toNat) :
    decode (encodeI 0x01 imm) = .error .immediateOutOfRange := by
  rw [decode, opField_encodeI]
  exact decodeI_encodeI_of_none (Backend.ofCode_eq_none h) ..

/-! ### The selection of a mode (R210) -/

theorem exec_modeSelect_of_selected {s : State} (h : s.mode ≠ .unsel) (m : Backend) :
    exec (.modeSelect m) s = .next (fatalState s 0x31) :=
  (conclude_raiseIf ..).trans (if_pos h)

/-- Selecting x2APIC looks at no pointer. -/
theorem exec_modeSelect_x2apic_of_unsel {s : State} (h : s.mode = .unsel) :
    exec (.modeSelect .x2apic) s = .next (okState { s with mode := .x2apic } 0 0) := by
  change execModeSelect .x2apic s = _
  rw [execModeSelect, conclude_raiseIf, if_neg (not_not.2 h), conclude_raiseIf,
    if_neg fun hx => nomatch hx.1]
  rfl

/-- With the default width the pointer of the selection is both operand words, its page offset the low
bits of `OPA`. -/
theorem exec_modeSelect_xapic_of_default {s : State} (h : s.mode = .unsel)
    (width : s.config.baseWidth = 64) :
    exec (.modeSelect .xapic) s =
      if s.opa.extractLsb' 0 12 = 0#12 then
        .next (okState { s with mode := .xapic, base := s.opb ++ s.opa } 0 0)
      else .next (fatalState s 0x32) := by
  have pageOffset : (s.opb ++ s.opa).extractLsb' 0 12 = s.opa.extractLsb' 0 12 :=
    BitVec.extractLsb'_append_eq_of_add_le (by decide)
  rw [← pageOffset, ← State.basePointer_of_default width]
  exact execModeSelect_xapic_of_unsel h

/-- Settles O45: without a mode the page offset decides the xAPIC selection, nothing the x2APIC one. -/
theorem modeSelectedOnce : Obligations.ModeSelectedOnce :=
  ⟨decode_of_encode_eq rfl rfl, decode_of_encode_eq rfl rfl,
    fun _ h => ⟨_, decode_modeSelect_illegal h⟩, fun _ =>
      ⟨fun h width aligned => (exec_modeSelect_xapic_of_default h width).trans (if_pos aligned),
        fun h width misaligned =>
          (exec_modeSelect_xapic_of_default h width).trans (if_neg misaligned),
        exec_modeSelect_x2apic_of_unsel, exec_modeSelect_of_selected⟩⟩

/-! ### The check of the mode (R211) -/

section Modes

variable {s : State}

theorem selected_of_x2apic (h : s.mode = .x2apic) : s.mode ≠ .unsel := by simp [h]

theorem selected_of_xapic (h : s.mode = .xapic) : s.mode ≠ .unsel := by simp [h]

theorem not_x2apic_of_xapic (h : s.mode = .xapic) : s.mode ≠ .x2apic := by simp [h]

end Modes

theorem conclude_requireMode (s : State) (k : Unit → Except FatalCode State) :
    s.conclude (requireMode s >>= k) =
      if s.mode = .unsel then .next (fatalState s 0x30) else s.conclude (k ()) :=
  conclude_raiseIf ..

/-- Settles O47: the check of the mode is the first of each of the five commands. -/
theorem dispatchNeedsSelectedMode : Obligations.DispatchNeedsSelectedMode := by
  intro s r hmode
  have refused (k : Unit → Except FatalCode State) :
      s.conclude (requireMode s >>= k) = .next (fatalState s 0x30) :=
    (conclude_requireMode s k).trans (if_pos hmode)
  exact ⟨refused _, refused _, refused _, refused _, refused _⟩

/-! ### Which registers each access reaches (R216, R217) -/

theorem routed_eq_none_iff (r : LogicalReg) :
    r.routed = none ↔ r ∈ [LogicalReg.tpr, .apr, .ppr, .rrd, .ldr] := by
  cases r <;> decide

theorem routed_readable_iff (r : LogicalReg) :
    r.routed.map RoutedReg.readable = some true ↔
      r ∈ [LogicalReg.id, .version, .esr, .lvtCmci, .lvtTimer, .lvtThermal, .lvtPerf, .lvtLint0,
        .lvtLint1, .lvtError, .tic, .tcc, .tdc] := by
  cases r <;> decide

theorem routed_unreadable_iff (r : LogicalReg) :
    r.routed.map RoutedReg.readable = some false ↔ r ∈ [LogicalReg.eoi, .icr] := by
  cases r <;> decide

theorem routed_writable_iff (r : LogicalReg) :
    r.routed.map RoutedReg.writable = some true ↔
      r ∈ [LogicalReg.lvtCmci, .lvtTimer, .lvtThermal, .lvtPerf, .lvtLint0, .lvtLint1, .lvtError,
        .tic, .tdc] := by
  cases r <;> decide

theorem routed_unwritable_iff (r : LogicalReg) :
    r.routed.map RoutedReg.writable = some false ↔
      r ∈ [LogicalReg.id, .version, .eoi, .esr, .icr, .tcc] := by
  cases r <;> decide

/-- `ID` is behind one select code. -/
theorem eq_id_of_routed {r : LogicalReg} (h : r.routed = some .id) : r = .id := by
  revert h
  cases r <;> decide

/-- A register behind one select code is named by that code alone. -/
theorem routedReg_eq_iff {r q : LogicalReg} {rr qq : RoutedReg} (hr : r.routed = some rr)
    (hq : q.routed = some qq) (only : r.routed = some qq → r = q) : rr = qq ↔ r = q :=
  ⟨fun h => only (h ▸ hr), fun h => Option.some.inj (hr.symm.trans (h ▸ hq))⟩

theorem routedReg_eq_id_iff {r : LogicalReg} {rr : RoutedReg} (h : r.routed = some rr) :
    rr = .id ↔ r = .id :=
  routedReg_eq_iff h rfl eq_id_of_routed

theorem routedReg_eq_lvtTimer_iff {r : LogicalReg} {rr : RoutedReg} (h : r.routed = some rr) :
    rr = .lvtTimer ↔ r = .lvtTimer :=
  routedReg_eq_iff h rfl eq_lvtTimer_of_routed

/-! ### The one access of a register command (R212, R214, R218) -/

/-- The transaction that reads a register in the selected mode. -/
def State.readAccess (s : State) (rr : RoutedReg) : Transaction :=
  if s.mode = .x2apic then .msrRead (s.config.msr rr) else .memRead (s.pageAddr (s.config.off rr))

/-- The transaction that writes a word to a register in the selected mode. -/
def State.writeAccess (s : State) (rr : RoutedReg) (w : Word) : Transaction :=
  if s.mode = .x2apic then .msrWrite (s.config.msr rr) (w.setWidth 64)
  else .memWrite (s.pageAddr (s.config.off rr)) w

/-- The fence that R219 puts behind a write. -/
def fenceFor (rr : RoutedReg) (w : Word) : List Transaction :=
  if rr = .lvtTimer ∧ w.extractLsb' 17 2 = 0b10#2 then [.fence] else []

theorem timerField_deadline_iff (w : Word) :
    timerField w = 0b10#32 ↔ w.extractLsb' 17 2 = 0b10#2 :=
  getBits_eq_setWidth_iff (hi := 18) (lo := 17) w (by decide) 0b10#2

section Accesses

variable {s : State} (rr : RoutedReg) (w : Word)

theorem State.readAccess_x2apic (h : s.mode = .x2apic) :
    s.readAccess rr = .msrRead (s.config.msr rr) :=
  if_pos h

theorem State.readAccess_xapic (h : s.mode = .xapic) :
    s.readAccess rr = .memRead (s.base + (s.config.off rr).setWidth 64) :=
  if_neg (not_x2apic_of_xapic h)

theorem State.writeAccess_x2apic (h : s.mode = .x2apic) :
    s.writeAccess rr w = .msrWrite (s.config.msr rr) (w.setWidth 64) :=
  if_pos h

theorem State.writeAccess_xapic (h : s.mode = .xapic) :
    s.writeAccess rr w = .memWrite (s.base + (s.config.off rr).setWidth 64) w :=
  if_neg (not_x2apic_of_xapic h)

variable (s)

theorem State.readReg_eq :
    s.readReg rr = (s.answer.setWidth 32, readDone s (s.readAccess rr)) := by
  by_cases h : s.mode = .x2apic
  · rw [State.readReg_x2apic h, State.readAccess, if_pos h]
    rfl
  · rw [State.readReg_memory h, State.readAccess, if_neg h]
    rfl

theorem State.writeReg_eq : s.writeReg rr w = emitted s [s.writeAccess rr w] := by
  by_cases h : s.mode = .x2apic
  · rw [State.writeReg_x2apic h, State.writeAccess, if_pos h]
    rfl
  · rw [State.writeReg_memory h, State.writeAccess, if_neg h]
    rfl

theorem fenceAfter_eq : fenceAfter rr w s = emitted s (fenceFor rr w) := by
  simp only [fenceAfter, fenceFor, timerField_deadline_iff]
  split
  · rfl
  · rw [emitted, List.append_nil]

theorem emitted_emitted (ts us : List Transaction) :
    emitted (emitted s ts) us = emitted s (ts ++ us) :=
  congrArg (fun l => { s with trace := l }) (List.append_assoc ..)

theorem fenceAfter_writeReg_eq :
    fenceAfter rr w (s.writeReg rr w) = emitted s (s.writeAccess rr w :: fenceFor rr w) := by
  rw [fenceAfter_eq, State.writeReg_eq, emitted_emitted]
  rfl

end Accesses

/-! ### What each register command does in a selected mode (R212, R216 to R220, R224) -/

section Commands

variable {s : State} (hmode : s.mode ≠ .unsel)

include hmode

theorem conclude_of_selected (k : Unit → Except FatalCode State) :
    s.conclude (requireMode s >>= k) = s.conclude (k ()) :=
  (conclude_requireMode s k).trans (if_neg hmode)

section Routes

variable {r : LogicalReg} {rr : RoutedReg}

/-- A register command of a placeholder ends at its route. -/
theorem conclude_placeholder (hr : r.routed = none) (k : RoutedReg → Except FatalCode State) :
    s.conclude (requireMode s >>= fun _ => route r >>= k) = .next (fatalState s 0x33) := by
  rw [conclude_of_selected hmode, route, hr]
  rfl

/-- A register command of a routed register checks the access kind, then accesses the register. -/
theorem conclude_routed (hr : r.routed = some rr) (allowed : RoutedReg → Bool)
    (k : RoutedReg → State) :
    s.conclude (requireMode s >>= fun _ => route r >>= fun rr =>
      raiseIf (allowed rr = false) .illegalRegisterAccess >>= fun _ => pure (k rr)) =
      if allowed rr = false then .next (fatalState s 0x34) else .next (k rr) := by
  rw [conclude_of_selected hmode, route, hr]
  exact conclude_raiseIf ..

theorem exec_regRd_placeholder (hr : r.routed = none) :
    exec (.regRd r) s = .next (fatalState s 0x33) :=
  conclude_placeholder hmode hr _

theorem exec_regWr_placeholder (hr : r.routed = none) :
    exec (.regWr r) s = .next (fatalState s 0x33) :=
  conclude_placeholder hmode hr _

theorem exec_regRd_routed (hr : r.routed = some rr) :
    exec (.regRd r) s =
      if rr.readable = false then .next (fatalState s 0x34)
      else .next (okState (readDone s (s.readAccess rr))
        (adaptRead s rr (s.answer.setWidth 32)) 0) := by
  change execRegRd r s = _
  rw [execRegRd, conclude_routed hmode hr RoutedReg.readable, State.readReg_eq]
  rfl

theorem exec_regWr_routed (hr : r.routed = some rr) :
    exec (.regWr r) s =
      if rr.writable = false then .next (fatalState s 0x34)
      else .next (okState (emitted s (s.writeAccess rr s.opa :: fenceFor rr s.opa)) 0 0) := by
  change execRegWr r s = _
  rw [execRegWr, conclude_routed hmode hr RoutedReg.writable, fenceAfter_writeReg_eq]
  rfl

end Routes

theorem exec_esrClr :
    exec .esrClr s = .next (okState (emitted s [s.writeAccess .esr 0]) 0 0) := by
  rw [← State.writeReg_eq]
  exact conclude_of_selected hmode _

theorem exec_eoi : exec .eoi s = .next (okState (emitted s [s.writeAccess .eoi 0]) 0 0) := by
  rw [← State.writeReg_eq]
  exact conclude_of_selected hmode _

end Commands

/-- Settles O49: the three lists are the placeholders and the registers without the access kind. -/
theorem registerAccessChecked : Obligations.RegisterAccessChecked := by
  intro s r hmode
  refine ⟨fun placeholder => ?placeholder, fun unreadable => ?read, fun unwritable => ?write⟩
  case placeholder =>
    have hr := (routed_eq_none_iff r).2 placeholder
    exact ⟨exec_regRd_placeholder hmode hr, exec_regWr_placeholder hmode hr⟩
  case read =>
    obtain ⟨rr, hr, h⟩ := Option.map_eq_some_iff.1 ((routed_unreadable_iff r).2 unreadable)
    exact (exec_regRd_routed hmode hr).trans (if_pos h)
  case write =>
    obtain ⟨rr, hr, h⟩ := Option.map_eq_some_iff.1 ((routed_unwritable_iff r).2 unwritable)
    exact (exec_regWr_routed hmode hr).trans (if_pos h)

/-! ### Reading a register (R212 to R214) -/

/-- The answer of the run is the one `answersNext` names. -/
theorem State.answer_of_answersNext {s : State} {a : DWord} (h : answersNext s a) :
    s.answer = a := by
  obtain listed | ⟨hnil, rfl⟩ := h
  · obtain ⟨rest, hcons⟩ := List.head?_eq_some_iff.1 listed
    exact State.answer_of_cons hcons
  · exact State.answer_of_nil hnil

theorem adaptRead_x2apic {s : State} (h : s.mode = .x2apic) (rr : RoutedReg) (w : Word) :
    adaptRead s rr w = w :=
  if_neg fun hx => not_x2apic_of_xapic hx.2 h

theorem adaptRead_of_ne_id {rr : RoutedReg} (h : rr ≠ .id) (s : State) (w : Word) :
    adaptRead s rr w = w :=
  if_neg fun hx => h hx.1

/-- The 8 bits of the identifier lie in the low half of the answer, as `P_XAPIC_ID_LSB` is at most 24. -/
theorem adaptRead_id_xapic {s : State} (h : s.mode = .xapic) (a : DWord) :
    adaptRead s .id (a.setWidth 32) =
      (a.extractLsb' s.config.xapicIdLsb.val 8).setWidth 32 := by
  have place := s.config.xapicIdLsb.isLt
  rw [adaptRead, if_pos ⟨rfl, h⟩]
  refine BitVec.eq_of_getLsbD_eq fun i inWord => ?_
  rw [getBits_getLsbD, BitVec.getLsbD_setWidth, BitVec.getLsbD_setWidth,
    BitVec.getLsbD_extractLsb', Nat.add_sub_cancel_left, decide_eq_true inWord, Bool.true_and]
  by_cases inside : i < 8
  · rw [decide_eq_true (show s.config.xapicIdLsb.val + i < 32 by omega), Bool.true_and]
  · rw [decide_eq_false inside, Bool.false_and, Bool.false_and]

/-- A readable register is read by one access, whatever the answer. -/
theorem exec_regRd_of_readable {s : State} {r : LogicalReg} {rr : RoutedReg} {a : DWord}
    (hmode : s.mode ≠ .unsel) (hr : r.routed = some rr) (readable : rr.readable = true)
    (ha : answersNext s a) :
    exec (.regRd r) s =
      .next (okState (readDone s (s.readAccess rr)) (adaptRead s rr (a.setWidth 32)) 0) := by
  rw [exec_regRd_routed hmode hr, if_neg (by simp [readable]), State.answer_of_answersNext ha]

/-- Settles O48: the access and the identifier's bits are those of the mode, the rest is one rule. -/
theorem registerReadOnce : Obligations.RegisterReadOnce := by
  intro s r rr a hr mem ha
  have readable : rr.readable = true := by
    simpa [hr] using (routed_readable_iff r).2 mem
  have low : a.extractLsb' 0 32 = a.setWidth 32 := (BitVec.setWidth_eq_extractLsb' (by decide)).symm
  have read (hmode : s.mode ≠ .unsel) := exec_regRd_of_readable hmode hr readable ha
  refine ⟨decodeOfEncodeIsIdentity (.regRd r) rfl, fun hx2 => ?x2apic, fun hxa hid => ?xapic,
    fun hxa hid => ?identifier⟩
  case x2apic =>
    rw [read (selected_of_x2apic hx2), State.readAccess_x2apic rr hx2, adaptRead_x2apic hx2, low]
  case xapic =>
    rw [read (selected_of_xapic hxa), State.readAccess_xapic rr hxa,
      adaptRead_of_ne_id (mt (routedReg_eq_id_iff hr).1 hid), low]
  case identifier =>
    obtain rfl := (routedReg_eq_id_iff hr).2 hid
    rw [read (selected_of_xapic hxa), State.readAccess_xapic .id hxa, adaptRead_id_xapic hxa]

/-! ### Writing a register (R218 to R220, R224) -/

/-- Settles O50: the write is the access of the mode, the fence is the same in both modes. -/
theorem registerWrittenOnce : Obligations.RegisterWrittenOnce := by
  intro s r rr hr mem
  have writable : rr.writable = true := by
    simpa [hr] using (routed_writable_iff r).2 mem
  have fence := routedReg_eq_lvtTimer_iff hr
  have write (hmode : s.mode ≠ .unsel) :=
    (exec_regWr_routed hmode hr).trans (if_neg (by simp [writable]))
  refine ⟨decodeOfEncodeIsIdentity (.regWr r) rfl, fun hx2 => ?x2apic, fun hxa => ?xapic⟩
  case x2apic =>
    simp only [write (selected_of_x2apic hx2), State.writeAccess_x2apic rr _ hx2, fenceFor, fence]
  case xapic =>
    simp only [write (selected_of_xapic hxa), State.writeAccess_xapic rr _ hxa, fenceFor, fence]

/-- Settles O51: both commands are one write of zero, and need a mode. -/
theorem clearAndEoiWriteZero : Obligations.ClearAndEoiWriteZero := by
  refine ⟨decode_of_encode_eq rfl rfl, decode_of_encode_eq rfl rfl, fun s =>
    ⟨fun hx2 => ?x2apic, fun hxa => ?xapic, fun hmode => ?unsel⟩⟩
  case x2apic =>
    have hmode := selected_of_x2apic hx2
    rw [exec_esrClr hmode, exec_eoi hmode, State.writeAccess_x2apic _ _ hx2,
      State.writeAccess_x2apic _ _ hx2]
    exact ⟨rfl, rfl⟩
  case xapic =>
    have hmode := selected_of_xapic hxa
    rw [exec_esrClr hmode, exec_eoi hmode, State.writeAccess_xapic _ _ hxa,
      State.writeAccess_xapic _ _ hxa]
    exact ⟨rfl, rfl⟩
  case unsel =>
    obtain ⟨-, -, esr, -, eoi⟩ := dispatchNeedsSelectedMode s .esr hmode
    exact ⟨esr, eoi⟩

/-! ### The send of an interrupt command (R221, R222) -/

theorem exec_icrSend_x2apic {s : State} (h : s.mode = .x2apic) :
    exec .icrSend s =
      if s.opa.extractLsb' 8 3 = 0b001#3 then .next (fatalState s 0x35)
      else .next (okState (sendX2 s) 0 0) := by
  have lowPriority : deliveryField s.opa = 0b001#32 ↔ s.opa.extractLsb' 8 3 = 0b001#3 :=
    deliveryField_eq_iff s.opa 0b001#3
  change execIcrSend s = _
  rw [execIcrSend, conclude_of_selected (selected_of_x2apic h), conclude_raiseIf, conclude_raiseIf,
    if_neg (show ¬ (s.mode ≠ .x2apic ∧ _) from fun hx => hx.1 h), if_pos h]
  simp only [h, true_and, lowPriority]
  rfl

theorem exec_icrSend_xapic {s : State} (h : s.mode = .xapic) :
    exec .icrSend s =
      if 0xFF < s.opb.toNat then .next (fatalState s 0x36)
      else .next (okState (sendXapic s) 0 0) := by
  have notX2 := not_x2apic_of_xapic h
  change execIcrSend s = _
  rw [execIcrSend, conclude_of_selected (selected_of_xapic h), conclude_raiseIf, conclude_raiseIf,
    if_neg (show ¬ (s.mode = .x2apic ∧ _) from fun hx => notX2 hx.1), if_neg notX2]
  simp only [notX2, ne_eq, not_false_eq_true, true_and, gt_iff_lt, BitVec.lt_def]
  rfl

/-- A word without a bit above the field is its own low field. -/
theorem getBits_low_eq_self {W hi : Nat} {w : BitVec W} (h : w.toNat < 2 ^ (hi + 1)) :
    getBits w hi 0 = w := by
  rw [getBits_eq_extractLsb', ← BitVec.toNat_inj, BitVec.toNat_setWidth, BitVec.extractLsb'_toNat,
    Nat.shiftRight_zero, Nat.sub_zero, Nat.mod_eq_of_lt h, Nat.mod_eq_of_lt w.isLt]

theorem sendX2_eq_split {s : State} (h : s.config.x2IcrForm = .split) :
    sendX2 s = emitted s [.msrWrite s.config.x2IcrHighMsr (s.opb.setWidth 64),
      .msrWrite 0x830 (s.opa.setWidth 64)] := by
  rw [sendX2_split h]
  exact emitted_emitted s [_] [_]

theorem sendX2_eq_merged {s : State} (h : s.config.x2IcrForm = .merged) :
    sendX2 s = emitted s [.msrWrite 0x830 (s.opb ++ s.opa)] := by
  rw [sendX2_merged h, concat_eq_append]
  rfl

theorem sendXapic_eq {s : State} (h : s.opb.toNat ≤ 0xFF) :
    sendXapic s = emitted s
      [.memWrite (s.base + s.config.regMap.icrHighOff.setWidth 64)
        (s.opb <<< s.config.xapicIdLsb.val),
       .memWrite (s.base + s.config.regMap.icrOff.setWidth 64) s.opa] := by
  rw [sendXapic, getBits_low_eq_self (hi := 7) (Nat.lt_succ_of_le h)]
  exact emitted_emitted s [_] [_]

/-- Settles O52: one check decides in each mode, then the form of the send. -/
theorem interruptCommandSent : Obligations.InterruptCommandSent := by
  refine ⟨decode_of_encode_eq rfl rfl, fun s => ⟨fun hmode => ?unsel,
    fun hx2 lowPriority => (exec_icrSend_x2apic hx2).trans (if_pos lowPriority),
    fun hx2 allowed form => ?split, fun hx2 allowed form => ?merged,
    fun hxa outside => (exec_icrSend_xapic hxa).trans (if_pos outside),
    fun hxa inside => ?xapic⟩⟩
  case unsel =>
    obtain ⟨-, -, -, send, -⟩ := dispatchNeedsSelectedMode s .icr hmode
    exact send
  case split => rw [exec_icrSend_x2apic hx2, if_neg allowed, sendX2_eq_split form]
  case merged => rw [exec_icrSend_x2apic hx2, if_neg allowed, sendX2_eq_merged form]
  case xapic => rw [exec_icrSend_xapic hxa, if_neg (Nat.not_lt.2 inside), sendXapic_eq inside]

/-! ### What the two modes have in common (R226) -/

/-- The state of a run in this mode. -/
def State.withMode (m : Mode) (s : State) : State :=
  { s with mode := m }

/-- Equal results and status, and the same words towards the downstream APIC in the same order. -/
def SameResultsAndWords (t u : State) : Prop :=
  t.res0 = u.res0 ∧ t.res1 = u.res1 ∧ t.stat = u.stat ∧
    t.trace.map Transaction.payload = u.trace.map Transaction.payload

theorem payload_readAccess (s : State) (rr : RoutedReg) : (s.readAccess rr).payload = none := by
  unfold State.readAccess
  split <;> rfl

/-- The word of a write survives its extension to an MSR. -/
theorem payload_writeAccess (s : State) (rr : RoutedReg) (w : Word) :
    (s.writeAccess rr w).payload = some w := by
  unfold State.writeAccess
  split
  · exact congrArg some (BitVec.setWidth_setWidth_of_le w (by decide))
  · rfl

section SelectedModes

variable {m n : Mode} (s : State)

theorem same_fatalState (c : Byte) :
    SameResultsAndWords (fatalState (s.withMode m) c) (fatalState (s.withMode n) c) :=
  ⟨rfl, rfl, rfl, rfl⟩

theorem same_emitted {ts us : List Transaction} (r0 r1 : Word)
    (h : ts.map Transaction.payload = us.map Transaction.payload) :
    SameResultsAndWords (okState (emitted (s.withMode m) ts) r0 r1)
      (okState (emitted (s.withMode n) us) r0 r1) := by
  refine ⟨rfl, rfl, rfl, ?_⟩
  change (s.trace ++ ts).map _ = (s.trace ++ us).map _
  rw [List.map_append, List.map_append, h]

theorem same_write (rr : RoutedReg) (w r0 r1 : Word) (ts : List Transaction) :
    SameResultsAndWords
      (okState (emitted (s.withMode m) ((s.withMode m).writeAccess rr w :: ts)) r0 r1)
      (okState (emitted (s.withMode n) ((s.withMode n).writeAccess rr w :: ts)) r0 r1) :=
  same_emitted s r0 r1 <| by
    rw [List.map_cons, List.map_cons, payload_writeAccess, payload_writeAccess]

theorem same_read (rr : RoutedReg) (r0 r1 : Word) :
    SameResultsAndWords
      (okState (readDone (s.withMode m) ((s.withMode m).readAccess rr)) r0 r1)
      (okState (readDone (s.withMode n) ((s.withMode n).readAccess rr)) r0 r1) :=
  same_emitted s r0 r1 (ts := [_]) (us := [_]) <| by
    rw [List.map_singleton, List.map_singleton, payload_readAccess, payload_readAccess]

variable (hm : m ≠ .unsel) (hn : n ≠ .unsel)

include hm hn

/-- A register is read alike in two selected modes, but for the identifier (R213). -/
theorem exec_regRd_same {r : LogicalReg} (hid : r ≠ .id) :
    ∃ t u, exec (.regRd r) (s.withMode m) = .next t ∧ exec (.regRd r) (s.withMode n) = .next u ∧
      SameResultsAndWords t u := by
  cases hr : r.routed with
  | none =>
    exact ⟨_, _, exec_regRd_placeholder hm hr, exec_regRd_placeholder hn hr, same_fatalState s _⟩
  | some rr =>
    have whole := adaptRead_of_ne_id (mt (routedReg_eq_id_iff hr).1 hid)
    rw [exec_regRd_routed hm hr, exec_regRd_routed hn hr, whole, whole]
    split
    · exact ⟨_, _, rfl, rfl, same_fatalState s _⟩
    · exact ⟨_, _, rfl, rfl, same_read s rr _ 0⟩

/-- A register is written alike in two selected modes. -/
theorem exec_regWr_same (r : LogicalReg) :
    ∃ t u, exec (.regWr r) (s.withMode m) = .next t ∧ exec (.regWr r) (s.withMode n) = .next u ∧
      SameResultsAndWords t u := by
  cases hr : r.routed with
  | none =>
    exact ⟨_, _, exec_regWr_placeholder hm hr, exec_regWr_placeholder hn hr, same_fatalState s _⟩
  | some rr =>
    rw [exec_regWr_routed hm hr, exec_regWr_routed hn hr]
    split
    · exact ⟨_, _, rfl, rfl, same_fatalState s _⟩
    · exact ⟨_, _, rfl, rfl, same_write s rr s.opa 0 0 _⟩

/-- The commands of R226 in two selected modes. -/
theorem exec_same {i : Instr} (hid : i ≠ .regRd .id)
    (hi : (∃ r, i = .regRd r ∨ i = .regWr r) ∨ i = .esrClr ∨ i = .eoi) :
    ∃ t u, exec i (s.withMode m) = .next t ∧ exec i (s.withMode n) = .next u ∧
      SameResultsAndWords t u := by
  obtain ⟨r, rfl | rfl⟩ | rfl | rfl := hi
  · exact exec_regRd_same s hm hn fun h => hid (congrArg Instr.regRd h)
  · exact exec_regWr_same s hm hn r
  · exact ⟨_, _, exec_esrClr hm, exec_esrClr hn, same_write s .esr 0 0 0 []⟩
  · exact ⟨_, _, exec_eoi hm, exec_eoi hn, same_write s .eoi 0 0 0 []⟩

end SelectedModes

/-- Settles O53: a word is the same in both accesses of a register, and so is the low half of an
answer. -/
theorem modesGiveEqualResultsAndWords : Obligations.ModesGiveEqualResultsAndWords := by
  intro s ta tb i hid hi hta htb
  obtain ⟨t, u, ht, hu, same⟩ :=
    exec_same s (m := .xapic) (n := .x2apic) (by decide) (by decide) hid hi
  cases hta.symm.trans ht
  cases htb.symm.trans hu
  exact same

end Machine
end Sys2Proof
end

section
/-! 60_exceptions. A command completes or is a fatal (R252, R256), what a step does with an illegal word
and while halted (R251, R254, R255, R258), and the invariant of the state, which holds at reset and is
kept by every step. -/

namespace Sys2Proof.Machine

/-! ### The causes a command can record (R250, 40_bitfield_primitives R115) -/

theorem FatalCode.code_mem_reachableCodes {c : FatalCode} (h : c ≠ .bitfieldOverflow) :
    c.code ∈ reachableCodes := by
  cases c with
  | bitfieldOverflow => exact absurd rfl h
  | _ => decide

/-- Settles O56: an effect leaves the fatal registers, the parameters and the inputs alone, and no check
raises `BitfieldOverflow`. -/
theorem commandCompletesOrIsFatal : Obligations.CommandCompletesOrIsFatal := by
  intro i s
  obtain ⟨u, r0, r1, hu, hexec⟩ | ⟨c, hc, hexec⟩ := exec_cases i s
  · refine ⟨_, hexec, .inl ?_⟩
    rw [hu.frame]
    exact ⟨rfl, rfl, rfl, rfl, rfl, rfl, rfl, rfl, rfl⟩
  · exact ⟨_, hexec, .inr ⟨c.code, FatalCode.code_mem_reachableCodes hc, rfl⟩⟩

/-! ### The common checks of a step (R251, R254, R255) -/

/-- A word that encodes no well-formed command is rejected (30_encoding R96). -/
theorem exists_decode_error {w : Word} (h : ∀ i : Instr, i.wellFormed = true → encode i ≠ w) :
    ∃ e, decode w = .error e := by
  cases hd : decode w with
  | error e => exact ⟨e, rfl⟩
  | ok i =>
    obtain ⟨wf, word⟩ := decodeAcceptsOnlyEncodings w i hd
    exact absurd word (h i wf)

/-- Settles O6: the decoder rejects the word, and the step is the fatal entry. -/
theorem illegalWordIsFatal : Obligations.IllegalWordIsFatal := by
  intro s c rest hin hlive noCommand
  obtain ⟨e, hd⟩ := exists_decode_error noCommand
  exact step_of_illegal hin hlive hd

/-- Settles O5: the check of `HALT` is the first of the step. -/
theorem haltedBlockRefusesEveryCommand : Obligations.HaltedBlockRefusesEveryCommand :=
  fun _ _ _ hin hhalt => step_of_halted hin hhalt

/-- Settles O7: a live block and a legal word pass both common checks. -/
theorem stepRunsDecodedCommand : Obligations.StepRunsDecodedCommand :=
  fun _ _ _ _ hin hlive hd _ => step_of_legal hin hlive hd

/-- Settles O10: a refusal keeps `HALT`, and the other two outcomes of a command need a live block. -/
theorem onlyResetLeavesHalt : Obligations.OnlyResetLeavesHalt := by
  intro s s' hhalt hstep hlive'
  obtain ⟨rest, hin, rfl⟩ | ⟨_, _, -, -, rfl⟩ | ⟨_, _, _, -, hlive, -⟩ | ⟨_, _, _, -, hlive, -⟩ :=
    step_cases hstep
  · exact ⟨⟨rest, hin⟩, rfl⟩
  · exact nomatch hhalt.symm.trans hlive'
  · exact nomatch hhalt.symm.trans hlive
  · exact nomatch hhalt.symm.trans hlive

/-! ### What keeps the invariant -/

/-- The clauses of the invariant about `BASE` (44_mode_dispatch R210, 00_scope R7). -/
structure State.BaseWf (s : State) : Prop where
  aligned : s.base.extractLsb' 0 12 = 0
  fits    : s.base.toNat < 2 ^ s.config.baseWidth.val
  unused  : s.mode ≠ .xapic → s.base = 0

theorem State.Inv.baseWf {s : State} (h : s.Inv) : s.BaseWf :=
  ⟨h.baseAligned, h.baseFits, h.baseUnused⟩

theorem Effect.config_eq {s u : State} {i : Instr} (h : Effect s i u) : u.config = s.config := by
  rw [h.frame]

/-- The selection of xAPIC has checked the pointer it writes to `BASE`; every other effect keeps
`BASE`. -/
theorem Effect.baseWf {s u : State} {i : Instr} (hu : Effect s i u) (h : s.BaseWf) : u.BaseWf := by
  obtain ⟨hmode, hbase⟩ | ⟨unselected, m, rfl⟩ := hu.mode_base
  · exact ⟨hbase ▸ h.aligned, by rw [hbase, hu.config_eq]; exact h.fits,
      by rw [hmode, hbase]; exact h.unused⟩
  · cases hu with
    | pure hpure => cases hpure
    | select _ aligned =>
      cases m with
      | xapic => exact ⟨aligned rfl, s.basePointer_toNat_lt, fun h => absurd rfl h⟩
      | x2apic => exact ⟨h.aligned, h.fits, fun _ => h.unused (by simp [unselected])⟩

/-- An effect adds transactions of the map to the trace (20_memory R57). -/
theorem Effect.traceRouted {s u : State} {i : Instr} (hu : Effect s i u) (h : s.Inv) :
    ∀ x ∈ u.trace, x.routed s.config = true := by
  obtain ⟨ts, htrace, hadd⟩ := hu.adds
  intro x hx
  rw [htrace] at hx
  obtain old | new := List.mem_append.1 hx
  · exact h.traceRouted x old
  · exact (hadd.permitted x new).2 h.baseAligned

namespace State.Inv

variable {s : State} (h : s.Inv)

include h

/-- A refusal repeats the recorded fatal on the ports of a halted block (R254). -/
theorem refuse (hhalt : s.halt = true) : s.refuse.Inv :=
  { h with
    haltedStat := fun _ => ⟨rfl, rfl, rfl⟩
    liveStat := fun hlive => nomatch hhalt.symm.trans hlive }

/-- The fatal entry records a cause that a command can raise (R250, R252). -/
theorem raiseFatal {c : FatalCode} (hc : c ≠ .bitfieldOverflow) : (s.raiseFatal c).Inv :=
  { h with
    liveCode := nofun
    haltedCode := fun _ => FatalCode.code_mem_reachableCodes hc
    haltedStat := fun _ => ⟨rfl, rfl, rfl⟩
    liveStat := nofun }

/-- A live block drives `OK` (10_state R24). -/
theorem complete (hlive : s.halt = false) (r0 r1 : Word) : (s.complete r0 r1).Inv :=
  { h with
    haltedStat := fun hhalt => nomatch hlive.symm.trans hhalt
    liveStat := fun _ => .inr rfl }

/-- Reset clears the block and keeps the parameters and the trace (70_reset_and_hazards R290, R292). -/
theorem applyReset : s.applyReset.Inv :=
  { h with
    liveCode := fun _ => ⟨rfl, rfl⟩
    haltedCode := nofun
    haltedStat := nofun
    liveStat := fun _ => .inl rfl
    baseAligned := rfl
    baseFits := Nat.two_pow_pos _
    baseUnused := fun _ => rfl }

/-- The invariant does not speak of what the host has yet to present. -/
theorem withInputs (rest : List HostInput) : ({ s with inputs := rest } : State).Inv :=
  { h with }

/-- The invariant does not speak of the sampled ports. -/
theorem sample (c : Command) : (s.sample c).Inv :=
  { h with }

/-- An effect writes `MODE`, `BASE` and the trace, and nothing else that the invariant speaks of. -/
theorem effect {u : State} {i : Instr} (hu : Effect s i u) : u.Inv := by
  obtain ⟨aligned, fits, unused⟩ := hu.baseWf h.baseWf
  have routed := hu.traceRouted h
  rw [hu.config_eq] at fits
  rw [hu.frame]
  exact { h with
    baseAligned := aligned
    baseFits := fits
    baseUnused := unused
    traceRouted := routed }

/-- A command on a live block keeps the invariant, completed or fatal. -/
theorem exec (hlive : s.halt = false) {i : Instr} {t : State}
    (hexec : Machine.exec i s = .next t) : t.Inv := by
  obtain ⟨u, r0, r1, hu, ht⟩ | ⟨c, hc, ht⟩ := exec_cases i s
  · cases ht.symm.trans hexec
    have live : u.halt = false := by rw [hu.frame]; exact hlive
    exact (h.effect hu).complete live r0 r1
  · cases ht.symm.trans hexec
    exact h.raiseFatal hc

end State.Inv

/-! ### The invariant at reset and after every step -/

/-- Settles O2: a live block with nothing recorded, `BASE` zero, the trace empty and every default offset
a multiple of 16. -/
theorem resetSatisfiesInvariant : Obligations.ResetSatisfiesInvariant where
  configWf := by decide
  liveCode _ := ⟨rfl, rfl⟩
  haltedCode := nofun
  haltedStat := nofun
  liveStat _ := .inl rfl
  baseAligned := rfl
  baseFits := by decide
  baseUnused _ := rfl
  traceRouted := nofun

/-- Settles O3: reset, a refusal, the fatal of an illegal word and an executed command each keep it. -/
theorem stepKeepsInvariant : Obligations.StepKeepsInvariant := by
  intro s s' hinv hstep
  obtain ⟨rest, -, rfl⟩ | ⟨c, rest, -, hhalt, rfl⟩ | ⟨c, rest, _, -, -, -, rfl⟩ |
    ⟨c, rest, i, -, hlive, -, hexec⟩ := step_cases hstep
  · exact (hinv.withInputs rest).applyReset
  · exact (hinv.withInputs rest).refuse hhalt
  · exact ((hinv.withInputs rest).sample c).raiseFatal (by decide)
  · exact ((hinv.withInputs rest).sample c).exec hlive hexec

/-! ### The record of the first fatal (R253) -/

/-- A command that writes `FCODE` or `FCMD` halts the block. -/
theorem exec_halts_of_record {i : Instr} {s t : State} (h : exec i s = .next t)
    (hw : t.fcode ≠ s.fcode ∨ t.fcmd ≠ s.fcmd) : t.halt = true := by
  obtain ⟨t', ht', ⟨-, -, -, hfcode, hfcmd, -⟩ | ⟨code, -, rfl⟩⟩ := commandCompletesOrIsFatal i s
  · cases ht'.symm.trans h
    exact hw.elim (absurd hfcode) (absurd hfcmd)
  · cases ht'.symm.trans h
    rfl

/-- Settles O11: a refusal writes neither register, and what the other outcomes write is the first
fatal of a live block; a live block holds zeros by the invariant. -/
theorem fatalIsRecordedOnce : Obligations.FatalIsRecordedOnce := by
  intro s s' hinv hstep noReset
  refine ⟨fun hw => ?_, (stepKeepsInvariant s s' hinv hstep).liveCode⟩
  obtain ⟨rest, hin, -⟩ | ⟨_, _, -, -, rfl⟩ | ⟨_, _, _, -, hlive, -, rfl⟩ |
    ⟨_, _, _, -, hlive, -, hexec⟩ := step_cases hstep
  · exact absurd hin (noReset rest)
  · simp at hw
  · exact ⟨hlive, rfl⟩
  · exact ⟨hlive, exec_halts_of_record hexec hw⟩

end Sys2Proof.Machine
end

section
/-! 70_reset_and_hazards. What reset does to the block and to what lies outside it (R290, R292), the pure
commands, which see nothing of the mode and the downstream side (R293), and the parameters (R296). -/

namespace Sys2Proof.Machine

/-! ### Pure commands (R293) -/

/-- A pure command makes no use of the block's registers and of the downstream side. -/
theorem Effect.eq_of_isPure {s u : State} {i : Instr} (h : Effect s i u) (hpure : isPure i = true) :
    u = s := by
  cases h with
  | pure => rfl
  | select | read | write | clearEsr | eoi | sendX2 | sendXapic => nomatch hpure

/-- Everything a pure command can do: drive its results, or the fatal entry. -/
theorem exec_cases_of_isPure {i : Instr} {s t : State} (hpure : isPure i = true)
    (h : exec i s = .next t) : (∃ r0 r1, t = s.complete r0 r1) ∨ ∃ c, t = s.raiseFatal c := by
  obtain ⟨u, r0, r1, hu, hexec⟩ | ⟨c, -, hexec⟩ := exec_cases i s
  · cases hu.eq_of_isPure hpure
    cases hexec.symm.trans h
    exact .inl ⟨r0, r1, rfl⟩
  · cases hexec.symm.trans h
    exact .inr ⟨c, rfl⟩

/-- The state of a run with these values in `MODE` and `BASE`. -/
def State.withModeBase (m : Mode) (b : DWord) (s : State) : State :=
  { s with mode := m, base := b }

section ModeAndBase

variable (m : Mode) (b : DWord) (s : State)

/-- A command does not notice `MODE` and `BASE` when its checked part carries their change over. -/
theorem conclude_withModeBase {e e' : Except FatalCode State}
    (he : e' = State.withModeBase m b <$> e) :
    (s.withModeBase m b).conclude e' = mapNext (State.withModeBase m b) (s.conclude e) :=
  State.conclude_map (fun _ => rfl) he

/-- Every pure command carries a change of `MODE` and `BASE` over to its outcome. The groups of cases: the
dispatch commands, which are not pure; checks before a result; a result that branches; the other commands
check nothing. -/
theorem exec_withModeBase {i : Instr} (hpure : isPure i = true) :
    exec i (s.withModeBase m b) = mapNext (State.withModeBase m b) (exec i s) := by
  cases i with
  | modeSelect | regRd | regWr | esrClr | icrSend | eoi => nomatch hpure
  | lvtGetvec | lvtSetvec | lvtGetdm | lvtSetdm | lvtGettm | lvtSettm | icrBuild | icrGetdm =>
    apply conclude_withModeBase
    simp only [map_bind, map_pure]
    rfl
  | icrGetvec =>
    apply conclude_withModeBase
    simp only [map_bind, apply_ite (State.withModeBase m b <$> ·), map_pure]
    rfl
  | _ => rfl

end ModeAndBase

/-- Settles O57: neither the results nor the fatal entry reach the mode or the downstream side, and a
change of `MODE` and `BASE` passes through the command to its outcome. -/
theorem pureCommandsNeitherEmitNorReadMode : Obligations.PureCommandsNeitherEmitNorReadMode := by
  intro i s t hpure hexec
  have independent (m : Mode) (b : DWord) :
      exec i (s.withModeBase m b) = .next (t.withModeBase m b) :=
    (exec_withModeBase m b s hpure).trans (congrArg (mapNext _) hexec)
  obtain ⟨r0, r1, rfl⟩ | ⟨c, rfl⟩ := exec_cases_of_isPure hpure hexec
  · exact ⟨rfl, rfl, rfl, rfl, rfl, independent⟩
  · exact ⟨rfl, rfl, rfl, rfl, rfl, independent⟩

/-! ### The parameters (R296) -/

theorem exec_config {i : Instr} {s t : State} (h : exec i s = .next t) : t.config = s.config := by
  obtain ⟨u, r0, r1, hu, hexec⟩ | ⟨c, -, hexec⟩ := exec_cases i s
  · cases hexec.symm.trans h
    exact hu.config_eq
  · cases hexec.symm.trans h
    rfl

/-- Settles O13: reset, a refusal and the fatal of an illegal word write no parameter, and no command
does. -/
theorem parametersAreConstant : Obligations.ParametersAreConstant := by
  intro s s' hstep
  obtain ⟨_, -, rfl⟩ | ⟨_, _, -, -, rfl⟩ | ⟨_, _, _, -, -, -, rfl⟩ | ⟨_, _, _, -, -, -, hexec⟩ :=
    step_cases hstep
  · rfl
  · rfl
  · rfl
  · rw [exec_config hexec, State.sample_config]

/-! ### Reset (R290, R292) -/

/-- Settles O4: the values of the reset state, with the five fields that reset keeps. -/
theorem hostResetRestartsBlock : Obligations.HostResetRestartsBlock :=
  fun _ _ hin => ⟨_, step_of_reset hin, rfl, rfl, rfl, rfl, rfl, rfl, rfl, rfl, rfl, rfl, rfl, rfl,
    rfl, rfl⟩

end Sys2Proof.Machine
end
